-- ==== Sys2Proof/Word.lean ====
section
/-! DEFINITION. The word types of the ARKE codec block: bytes, the unsigned widths of 00_scope.md R13,
the f32 bit pattern of R16, and the eight-byte payload buffer of 20_memory.md R61. -/

namespace Sys2Proof

/-- A byte, `u8` (00_scope.md R13). -/
abbrev Byte := BitVec 8

/-- A `u16`; read as two's complement (`BitVec.toInt`) where a field is an `i16` (R13, R14). -/
abbrev U16 := BitVec 16

/-- A `u32` (R13). -/
abbrev U32 := BitVec 32

/-- An `f32`, held as its 32-bit binary32 pattern (R16: "A value of type f32 in the pseudocode is its
32-bit pattern"). -/
abbrev F32 := BitVec 32

/-- A payload buffer of eight bytes, `data[0..7]` (20_memory.md R61, 30_encoding.md R93). -/
abbrev Payload := Vector Byte 8

/-- The buffer of eight zero bytes, which ENCODE starts from (45_dispatch.md R310: `data_out[0..7] <- 0`). -/
def Payload.zero : Payload := #v[0, 0, 0, 0, 0, 0, 0, 0]

/-- Byte `k` of a buffer. Offsets run from 0 to 7 (R61) and no operation asks for another one; the value 0
past the end only makes the function total. -/
def Payload.byte (d : Payload) (k : Nat) : Byte := d[k]?.getD 0

end Sys2Proof
end

