-- ==== Sys2Proof/Config.lean ====
section
/-! DEFINITION. What one instance of the block fixes (00_scope.md R9 to R11, 10_state.md R37 to R39): the
message-class table DEV_CLASS_TABLE, TRIGGER_MODE_LEN, the constant NAN32 and the constant table NetROM.
NUM_PORTS is the length of the port list of `Machine.State`. -/

namespace Sys2Proof

/-- The fourteen device messages that have a codec (30_encoding.md R106, the device rows). -/
inductive DevKind where
  | notusSetPoint | notusConfig
  | celaenoSetPoint | celaenoStatus | celaenoConfig
  | heliosSetPoint | heliosPulseMode | heliosTriggerMode
  | zeusSetPoint | zeusReport | zeusConfig | zeusStatus | zeusControlPoint | zeusDeltaTemperature
deriving DecidableEq, Repr

/-- The four network commands that have a decoder (10_state.md R39). -/
inductive NetKind where
  | reset | idChange | errorReport | heartbeatRequest
deriving DecidableEq, Repr

/-- TRIGGER_MODE_LEN, which is 4 or 6 (00_scope.md R10). -/
inductive TriggerModeLen where
  | four | six
deriving DecidableEq, Repr

/-- The length in bytes that TRIGGER_MODE_LEN stands for (R10). -/
def TriggerModeLen.bytes : TriggerModeLen → Nat
  | .four => 4
  | .six => 6

/-- The class that the opcode table and the default DEV_CLASS_TABLE give a device message (10_state.md R38). -/
def DevKind.defaultClass : DevKind → BitVec 6
  | .notusSetPoint => 0x2C
  | .notusConfig => 0x2D
  | .celaenoSetPoint => 0x30
  | .celaenoStatus => 0x31
  | .celaenoConfig => 0x32
  | .heliosSetPoint => 0x34
  | .heliosPulseMode => 0x35
  | .heliosTriggerMode => 0x36
  | .zeusSetPoint => 0x38
  | .zeusReport => 0x39
  | .zeusConfig => 0x3B
  | .zeusStatus => 0x3C
  | .zeusControlPoint => 0x3D
  | .zeusDeltaTemperature => 0x3E

/-- The default DEV_CLASS_TABLE of 10_state.md R38, class by class; every class not listed, 0x3A among them,
is unregistered. The opcode table's device rows are written for this table. -/
def defaultDevClass (c : BitVec 6) : Option DevKind :=
  match c with
  | 0x2C => some .notusSetPoint
  | 0x2D => some .notusConfig
  | 0x30 => some .celaenoSetPoint
  | 0x31 => some .celaenoStatus
  | 0x32 => some .celaenoConfig
  | 0x34 => some .heliosSetPoint
  | 0x35 => some .heliosPulseMode
  | 0x36 => some .heliosTriggerMode
  | 0x38 => some .zeusSetPoint
  | 0x39 => some .zeusReport
  | 0x3B => some .zeusConfig
  | 0x3C => some .zeusStatus
  | 0x3D => some .zeusControlPoint
  | 0x3E => some .zeusDeltaTemperature
  | _ => none

/-- The configuration of one instance (10_state.md R37: "Its configuration is fixed for a model instance").
It stands in `Machine.State` because 00_scope.md R9 to R11 make its values parameters that the model takes:
every statement about all states is then a statement about every instance. -/
structure Config where
  /-- TRIGGER_MODE_LEN (00_scope.md R10). -/
  triggerModeLen : TriggerModeLen
  /-- DEV_CLASS_TABLE, the content of DevROM: 64 entries, each unregistered (`none`) or the device message
  registered there (00_scope.md R11, 10_state.md R38). -/
  devTable : Vector (Option DevKind) 64
deriving DecidableEq, Repr

/-- The default instance: TRIGGER_MODE_LEN at its recommended value 6 (R10) and the default table (R38).
DESIGN CHOICE, log entry 2. -/
def Config.default : Config where
  triggerModeLen := .six
  devTable := Vector.ofFn fun i => defaultDevClass (BitVec.ofNat 6 i.val)

/-- `DevROM[c]` (00_scope.md R18): the entry of class `c`. -/
def Config.devRom (cfg : Config) (c : BitVec 6) : Option DevKind := cfg.devTable[c.toNat]

/-- The column L of DevROM: the payload length in bytes of a device message (10_state.md R38, 30_encoding.md R106). -/
def DevKind.payloadLen (tml : TriggerModeLen) : DevKind → Nat
  | .notusSetPoint => 1
  | .notusConfig => 4
  | .celaenoSetPoint => 1
  | .celaenoStatus => 3
  | .celaenoConfig => 8
  | .heliosSetPoint => 2
  | .heliosPulseMode => 2
  | .heliosTriggerMode => tml.bytes
  | .zeusSetPoint => 5
  | .zeusReport => 8
  | .zeusConfig => 8
  | .zeusStatus => 7
  | .zeusControlPoint => 4
  | .zeusDeltaTemperature => 8

/-- `NetROM[n]` (10_state.md R39): constant, not a parameter. Sub-commands 1, 4, 5 and 6 are unregistered. -/
def netRom (n : BitVec 3) : Option NetKind :=
  match n with
  | 0 => some .reset
  | 2 => some .idChange
  | 3 => some .errorReport
  | 7 => some .heartbeatRequest
  | _ => none

/-- The tag column of NetROM (R39): 0x40 plus the sub-command (30_encoding.md R106). -/
def NetKind.tag : NetKind → Byte
  | .reset => 0x40
  | .idChange => 0x42
  | .errorReport => 0x43
  | .heartbeatRequest => 0x47

/-- The tag of a heartbeat announcement (30_encoding.md R106). -/
def tagHeartbeat : Byte := 0x48

/-- The tag of an RTR poll, MESSAGE_REQUEST (30_encoding.md R106). -/
def tagMessageRequest : Byte := 0x80

/-- The pattern the block outputs for the NaN sentinel (10_state.md R37). -/
def nan32 : F32 := 0x7FC00000

end Sys2Proof
end

