-- ==== Sys2Proof/Syntax.lean ====
section
/-! DEFINITION. The syntax of the block: message records (30_encoding.md R106 to R129), frames (R93), and the
instructions, one constructor of `Instr` for each of the 79 rows of spec/opcode_table.json. A REQ row is a
request by its op code (R95); a FRAME row is a PARSE request by its demultiplexing key (R94, R130); an ENC row is
an ENCODE request by its tag (R106, R132). -/

namespace Sys2Proof

/-! ### Records (R107: "The record of a tag is the ordered list of fields in its layout rule") -/

/-- FanStatusAndRpm (R108). `fstatus` is 0 OK, 1 AGING or 2 STALLED; 3 is no status, and a request can hold it. -/
structure Fan where
  fstatus : BitVec 2
  rpm : BitVec 14
deriving DecidableEq, Repr

/-- A PDConfig block (R109). The dividers are u8 so that a value over 15 can be presented. -/
structure PDConfig where
  prop : Byte
  deriv : Byte
  integ : Byte
  divPd : Byte
  divI : Byte
deriving DecidableEq, Repr

/-- NOTUS_SET_POINT (R122). -/
structure NotusSetPoint where
  power : Byte
deriving DecidableEq, Repr

/-- NOTUS_CONFIG (R123). -/
structure NotusConfig where
  rampDownMs : U16
  minFan : Byte
  maxHeat : Byte
deriving DecidableEq, Repr

/-- CELAENO_SET_POINT (R119). -/
structure CelaenoSetPoint where
  power : Byte
deriving DecidableEq, Repr

/-- CELAENO_STATUS (R120). `waterLevel` is 0 NOMINAL, 1 WARNING, 2 CRITICAL, 3 READ_ERROR. -/
structure CelaenoStatus where
  waterLevel : BitVec 2
  fan : Fan
deriving DecidableEq, Repr

/-- CELAENO_CONFIG (R121). Each field is a u32 so that an overflowing value can be presented. -/
structure CelaenoConfig where
  rampUpMs : U32
  rampDownMs : U32
  minimumOnMs : U32
  debounceMs : U32
deriving DecidableEq, Repr

/-- HELIOS_SET_POINT (R116). -/
structure HeliosSetPoint where
  visible : Byte
  uv : Byte
deriving DecidableEq, Repr

/-- HELIOS_PULSE_MODE (R117). -/
structure HeliosPulseMode where
  periodMs : U16
deriving DecidableEq, Repr

/-- HELIOS_TRIGGER_MODE (R118). `cameraDelayUs` is an i16. -/
structure HeliosTriggerMode where
  period100us : U16
  pulseUs : U16
  cameraDelayUs : U16
deriving DecidableEq, Repr

/-- ZEUS_SET_POINT (R110). -/
structure ZeusSetPoint where
  humidity : F32
  temperature : F32
  wind : Byte
deriving DecidableEq, Repr

/-- ZEUS_REPORT (R111). -/
structure ZeusReport where
  humidity : F32
  temperature : F32
  aux0 : F32
  aux1 : F32
  aux2 : F32
deriving DecidableEq, Repr

/-- ZEUS_CONFIG (R112): fields 0 to 4 are `pd0`, fields 5 to 9 are `pd1`. -/
structure ZeusConfig where
  pd0 : PDConfig
  pd1 : PDConfig
deriving DecidableEq, Repr

/-- ZEUS_STATUS (R113). The status byte is carried raw. -/
structure ZeusStatus where
  status : Byte
  fan0 : Fan
  fan1 : Fan
  fan2 : Fan
deriving DecidableEq, Repr

/-- ZEUS_CONTROL_POINT (R114): two i16. -/
structure ZeusControlPoint where
  humidity : U16
  temperature : U16
deriving DecidableEq, Repr

/-- ZEUS_DELTA_TEMPERATURE (R115). -/
structure ZeusDeltaTemperature where
  delta0 : F32
  delta1 : F32
  delta2 : F32
  delta3 : F32
deriving DecidableEq, Repr

/-- RESET_REQUEST (R124). -/
structure ResetRequest where
  cls : BitVec 6
  id : Byte
deriving DecidableEq, Repr

/-- ID_CHANGE_REQUEST (R125). -/
structure IdChangeRequest where
  cls : BitVec 6
  old : Byte
  new : Byte
deriving DecidableEq, Repr

/-- ERROR_REPORT (R126): all three fields come from the payload. -/
structure ErrorReport where
  cls : Byte
  id : Byte
  code : U16
deriving DecidableEq, Repr

/-- HEARTBEAT_REQUEST (R127): `periodMs` 0 stands for the empty payload; a u32 so that an overflow can be presented. -/
structure HeartbeatRequest where
  cls : BitVec 6
  periodMs : U32
deriving DecidableEq, Repr

/-- HEARTBEAT (R128). -/
structure Heartbeat where
  cls : BitVec 6
  id : BitVec 3
  major : Byte
  minor : Byte
  patch : Byte
  tweak : Byte
deriving DecidableEq, Repr

/-- MESSAGE_REQUEST (R129). -/
structure MessageRequest where
  cls : BitVec 6
  id : BitVec 3
deriving DecidableEq, Repr

/-- The record of a decoded message, one constructor for each message variant that PARSE produces (R106). -/
inductive Record where
  | notusSetPoint (r : NotusSetPoint)
  | notusConfig (r : NotusConfig)
  | celaenoSetPoint (r : CelaenoSetPoint)
  | celaenoStatus (r : CelaenoStatus)
  | celaenoConfig (r : CelaenoConfig)
  | heliosSetPoint (r : HeliosSetPoint)
  | heliosPulseMode (r : HeliosPulseMode)
  | heliosTriggerMode (r : HeliosTriggerMode)
  | zeusSetPoint (r : ZeusSetPoint)
  | zeusReport (r : ZeusReport)
  | zeusConfig (r : ZeusConfig)
  | zeusStatus (r : ZeusStatus)
  | zeusControlPoint (r : ZeusControlPoint)
  | zeusDeltaTemperature (r : ZeusDeltaTemperature)
  | resetRequest (r : ResetRequest)
  | idChangeRequest (r : IdChangeRequest)
  | errorReport (r : ErrorReport)
  | heartbeatRequest (r : HeartbeatRequest)
  | heartbeat (r : Heartbeat)
  | messageRequest (r : MessageRequest)
deriving DecidableEq, Repr

/-! ### Frames and operands -/

/-- A frame (R93): `len` is 0 to 8 in a CAN frame, and a request can hold 9 to 15. -/
structure Frame where
  id : U32
  ext : Bool
  rtr : Bool
  len : BitVec 4
  data : Payload
deriving DecidableEq, Repr

/-- What a frame holds beside its demultiplexing key (R94): `id[31:11]`, `len` and the data bytes. -/
structure FrameTail where
  idHi : BitVec 21
  len : BitVec 4
  data : Payload
deriving DecidableEq, Repr

/-- The operands of ENCODE beside the tag and the record (R98). -/
structure EncOps where
  hp : Bool
  node : Byte
  cap : BitVec 4
deriving DecidableEq, Repr

/-- The bits of an ENCODE request's record, before the tag says which fields they are: the fields of R107 in index
order from bit 0 up, each at its width. The widest record is ZEUS_REPORT's 160 bits. DESIGN CHOICE, log entry 4. -/
abbrev RawRecord := BitVec 160

/-- The instructions: one constructor for each row of spec/opcode_table.json, in the table's order. -/
inductive Instr where
  -- REQ rows (R95, R96)
  | parse (f : Frame)
  | encode (o : EncOps) (tag : Byte) (rec : RawRecord)
  | idEncode (t : Byte) (c : Byte) (n : Byte)
  | idDecode (id : U32)
  | humToBin (f : F32)
  | binToHum (u : U16)
  | tempToBin (f : F32)
  | binToTemp (u : U16)
  | tmpToBin (f : F32)
  | binToTmp (u : U16)
  | reservedOpA (operands : BitVec 188)
  | reservedOpB (operands : BitVec 188)
  | reservedOpC (operands : BitVec 188)
  | reservedOpD (operands : BitVec 188)
  | reservedOpE (operands : BitVec 188)
  | reservedOpF (operands : BitVec 188)
  -- FRAME rows: PARSE requests by key (R130)
  | parseExtendedReject (rtr : Bool) (t : BitVec 2) (c : BitVec 6) (n : BitVec 3) (x : FrameTail)
  | parseRtrNetworkReject (c : BitVec 6) (n : BitVec 3) (x : FrameTail)
  | parseRtrHeartbeatReject (c : BitVec 6) (n : BitVec 3) (x : FrameTail)
  | parseRtrPollHp (c : BitVec 6) (n : BitVec 3) (x : FrameTail)
  | parseRtrPollStd (c : BitVec 6) (n : BitVec 3) (x : FrameTail)
  | parseNetResetRequest (c : BitVec 6) (x : FrameTail)
  | parseNetSynchronisationReserved (c : BitVec 6) (x : FrameTail)
  | parseNetIdChangeRequest (c : BitVec 6) (x : FrameTail)
  | parseNetErrorReport (c : BitVec 6) (x : FrameTail)
  | parseNetNetcmd4Unknown (c : BitVec 6) (x : FrameTail)
  | parseNetNetcmd5Unknown (c : BitVec 6) (x : FrameTail)
  | parseNetNetcmd6Unknown (c : BitVec 6) (x : FrameTail)
  | parseNetHeartbeatRequest (c : BitVec 6) (x : FrameTail)
  | parseHeartbeat (c : BitVec 6) (n : BitVec 3) (x : FrameTail)
  | parseNotusSetPointHp (n : BitVec 3) (x : FrameTail)
  | parseNotusConfigHp (n : BitVec 3) (x : FrameTail)
  | parseCelaenoSetPointHp (n : BitVec 3) (x : FrameTail)
  | parseCelaenoStatusHp (n : BitVec 3) (x : FrameTail)
  | parseCelaenoConfigHp (n : BitVec 3) (x : FrameTail)
  | parseHeliosSetPointHp (n : BitVec 3) (x : FrameTail)
  | parseHeliosPulseModeHp (n : BitVec 3) (x : FrameTail)
  | parseHeliosTriggerModeHp (n : BitVec 3) (x : FrameTail)
  | parseZeusSetPointHp (n : BitVec 3) (x : FrameTail)
  | parseZeusReportHp (n : BitVec 3) (x : FrameTail)
  | parseZeusConfigHp (n : BitVec 3) (x : FrameTail)
  | parseZeusStatusHp (n : BitVec 3) (x : FrameTail)
  | parseZeusControlPointHp (n : BitVec 3) (x : FrameTail)
  | parseZeusDeltaTemperatureHp (n : BitVec 3) (x : FrameTail)
  | parseUnknownClassHp (c : BitVec 6) (n : BitVec 3) (x : FrameTail)
  | parseNotusSetPointStd (n : BitVec 3) (x : FrameTail)
  | parseNotusConfigStd (n : BitVec 3) (x : FrameTail)
  | parseCelaenoSetPointStd (n : BitVec 3) (x : FrameTail)
  | parseCelaenoStatusStd (n : BitVec 3) (x : FrameTail)
  | parseCelaenoConfigStd (n : BitVec 3) (x : FrameTail)
  | parseHeliosSetPointStd (n : BitVec 3) (x : FrameTail)
  | parseHeliosPulseModeStd (n : BitVec 3) (x : FrameTail)
  | parseHeliosTriggerModeStd (n : BitVec 3) (x : FrameTail)
  | parseZeusSetPointStd (n : BitVec 3) (x : FrameTail)
  | parseZeusReportStd (n : BitVec 3) (x : FrameTail)
  | parseZeusConfigStd (n : BitVec 3) (x : FrameTail)
  | parseZeusStatusStd (n : BitVec 3) (x : FrameTail)
  | parseZeusControlPointStd (n : BitVec 3) (x : FrameTail)
  | parseZeusDeltaTemperatureStd (n : BitVec 3) (x : FrameTail)
  | parseUnknownClassStd (c : BitVec 6) (n : BitVec 3) (x : FrameTail)
  -- ENC rows: ENCODE requests by tag (R106, R132)
  | encodeNotusSetPoint (o : EncOps) (r : NotusSetPoint)
  | encodeNotusConfig (o : EncOps) (r : NotusConfig)
  | encodeCelaenoSetPoint (o : EncOps) (r : CelaenoSetPoint)
  | encodeCelaenoStatus (o : EncOps) (r : CelaenoStatus)
  | encodeCelaenoConfig (o : EncOps) (r : CelaenoConfig)
  | encodeHeliosSetPoint (o : EncOps) (r : HeliosSetPoint)
  | encodeHeliosPulseMode (o : EncOps) (r : HeliosPulseMode)
  | encodeHeliosTriggerMode (o : EncOps) (r : HeliosTriggerMode)
  | encodeZeusSetPoint (o : EncOps) (r : ZeusSetPoint)
  | encodeZeusReport (o : EncOps) (r : ZeusReport)
  | encodeZeusConfig (o : EncOps) (r : ZeusConfig)
  | encodeZeusStatus (o : EncOps) (r : ZeusStatus)
  | encodeZeusControlPoint (o : EncOps) (r : ZeusControlPoint)
  | encodeZeusDeltaTemperature (o : EncOps) (r : ZeusDeltaTemperature)
  | encodeResetRequest (o : EncOps) (r : ResetRequest)
  | encodeIdChangeRequest (o : EncOps) (r : IdChangeRequest)
  | encodeHeartbeatRequest (o : EncOps) (r : HeartbeatRequest)
  | encodeMessageRequest (o : EncOps) (r : MessageRequest)
  | encodeNotEncodable (o : EncOps) (tag : Byte) (rec : RawRecord)
deriving DecidableEq, Repr

/-! ### Request images -/

/-- The three word spaces of spec/opcode_table.json (its column "format"): a request by op code, a PARSE request by
key, an ENCODE request by tag. DESIGN CHOICE, log entry 4. -/
inductive Form where
  | req | frame | enc
deriving DecidableEq, Repr

/-- The image in which the host presents one request: its form and its bytes, bit 0 of the request being bit 0 of the
first byte. The spec gives a request no byte image (20_memory.md R65). DESIGN CHOICE, log entry 4. -/
structure Image where
  form : Form
  bytes : List Byte
deriving DecidableEq, Repr

/-- Why an image is no request. No image of a request of the spec is turned away. -/
inductive DecodeError where
  /-- The image does not have `imageBytes` bytes. -/
  | wrongLength (n : Nat)
  /-- A bit above the last operand of the request is set. -/
  | trailingBits
deriving DecidableEq, Repr

end Sys2Proof
end

