-- ==== Sys2Proof/Machine/State.lean ====
section
/-! DEFINITION. The state of the block (10_state.md): per port a response register and its valid bit, and the
configuration of the instance with the two ROM tables. The block has no register file, no program counter, no flags
register, no memory and no hidden state (R31, R32, R36, R41, 20_memory.md R60). Beside them stand three fields of the
model's own, for the host that drives the block (60_exceptions.md R358): the host actions not yet performed, the port of the
Submit being performed, and what the last Read returned. -/

namespace Sys2Proof.Machine

/-- The body of a response (30_encoding.md R101 to R105): the error fields, or the success fields of one op. A
response is one or the other, never both. -/
inductive Body where
  /-- The error fields of R102; `ok = 0`. -/
  | err (ekind : BitVec 4) (wrapped : Bool) (ea : U32) (eb : U32)
  /-- The PARSE success fields of R103. -/
  | parsed (tag : Byte) (rnode : Byte) (ftype : BitVec 2) (fclass : BitVec 6) (fnode : BitVec 3) (rec : Record)
  /-- The ENCODE success fields of R104: one frame, whose data bytes are `data_out`. -/
  | frame (f : Frame)
  /-- The ID_ENCODE success field (R105). -/
  | ident (id : U32)
  /-- The ID_DECODE success fields (R105). -/
  | split (t : BitVec 2) (c : BitVec 6) (n : BitVec 3)
  /-- The success field of HUM_TO_BIN, TEMP_TO_BIN and TMP_TO_BIN (R105). -/
  | bin (u : U16)
  /-- The success fields of BIN_TO_HUM, BIN_TO_TEMP and BIN_TO_TMP (R105). -/
  | float (f : F32) (invalid : Bool)
deriving DecidableEq, Repr

/-- A response (30_encoding.md R101): the echoed op code and the body. -/
structure Response where
  op : BitVec 4
  body : Body
deriving DecidableEq, Repr

/-- The content the model gives `resp[p]` at reset, where the spec leaves it unspecified (10_state.md R42): every
bit 0, an error of kind 0, which no transaction produces (60_exceptions.md R341). DESIGN CHOICE, log entry 1. -/
def Response.unspecified : Response := ⟨0, .err 0 false 0 0⟩

/-- One port (10_state.md R30, R34, R35). -/
structure Port where
  /-- `resp_valid[p]`. -/
  respValid : Bool
  /-- `resp[p]`. -/
  resp : Response
deriving DecidableEq, Repr

/-- A port after reset (R42). -/
def Port.reset : Port := ⟨false, Response.unspecified⟩

/-- The host's three actions (60_exceptions.md R358). A request is the argument of its Submit (10_state.md R33),
here as its image. -/
inductive HostAction where
  | submit (p : Nat) (req : Image)
  | read (p : Nat)
  | reset
deriving DecidableEq, Repr

structure State where
  /-- The ports, in the order of their numbers; NUM_PORTS is the length of this list (00_scope.md R9). -/
  ports : List Port
  /-- TRIGGER_MODE_LEN and DEV_CLASS_TABLE, the content of DevROM (R37, R38, R42: "fixed for the instance"). -/
  cfg : Config
  /-- The model's own: the port of the Submit being performed (log entry 3). -/
  curPort : Nat
  /-- The model's own: the host actions still to come, the next one first (log entry 3). -/
  pending : List HostAction
  /-- The model's own, on the host's side: what the last Read returned (log entry 3). -/
  lastRead : Option Response
deriving DecidableEq, Repr

/-- Why an action is a fault of the model. Neither is a fault of the block, which never stops (70_reset_and_hazards.md
R387). Both are safe: the spec itself makes these actions faults. -/
inductive Fault where
  /-- A Submit or a Read names a port `p ≥ NUM_PORTS` (60_exceptions.md R358). Raised by `State.respond` and
  `State.readPort`. Safe. -/
  | noSuchPort (p : Nat)
  /-- A Read of `resp[p]` while `resp_valid[p] = 0` (10_state.md R35, 70_reset_and_hazards.md R384). Raised by
  `State.readPort`. Safe. -/
  | responseNotValid (p : Nat)
deriving DecidableEq, Repr

/-- Why the model gives a step no meaning. -/
inductive Refusal where
  /-- An instruction that has no meaning yet. No arm of `exec` raises it. Safe. -/
  | notModelled (mnemonic : String)
  /-- The image of a Submit is no request: raised by the fetch where `decode` rejects the image. No request of the spec
  has such an image. Safe. -/
  | malformedImage (why : DecodeError)
deriving DecidableEq, Repr

/-- The block after reset, for a given number of ports and configuration (10_state.md R42). -/
def State.resetWith (numPorts : Nat) (cfg : Config) : State where
  ports := List.replicate numPorts Port.reset
  cfg := cfg
  curPort := 0
  pending := []
  lastRead := none

/-- The block right after reset (10_state.md R42, 70_reset_and_hazards.md R380), as the default instance: two ports, as in
the programs of 95_test_vectors.md §3, and `Config.default`. DESIGN CHOICE, log entry 2. -/
def State.reset : State := State.resetWith 2 Config.default

end Sys2Proof.Machine
end

