-- ==== Sys2Proof/Machine/Flags.lean ====
section
/-! DEFINITION. The flag-like bits of a response (10_state.md R36) as the host sees them, and the numeric codes of
the error kinds (60_exceptions.md R341). The block has no condition codes. -/

namespace Sys2Proof.Machine

/-- `resp.ok`: 1 on success, 0 on error (30_encoding.md R101). -/
def Response.ok (r : Response) : Bool :=
  match r.body with
  | .err .. => false
  | .parsed .. => true
  | .frame .. => true
  | .ident .. => true
  | .split .. => true
  | .bin .. => true
  | .float .. => true

/-- `resp.wrapped` of an error response (60_exceptions.md R350). A success response has no such field. -/
def Response.wrapped (r : Response) : Option Bool :=
  match r.body with
  | .err _ w _ _ => some w
  | _ => none

/-- `resp.invalid` of a fixed-point decode (30_encoding.md R105). Any other response has no such field. -/
def Response.invalid (r : Response) : Option Bool :=
  match r.body with
  | .float _ inv => some inv
  | _ => none

/-- The error kinds (60_exceptions.md R341). -/
inductive ErrKind where
  | bufferTooSmall | invalidSensorValue | rangeOverflow | invalidIdentifier
  | unknownClass | unknownNetworkCommand | invalidArgument | badRequest
deriving DecidableEq, Repr

/-- The code of an error kind in `resp.ekind` (R341). Codes 0 and 9 to 15 are never produced. -/
def ErrKind.code : ErrKind → BitVec 4
  | .bufferTooSmall => 1
  | .invalidSensorValue => 2
  | .rangeOverflow => 3
  | .invalidIdentifier => 4
  | .unknownClass => 5
  | .unknownNetworkCommand => 6
  | .invalidArgument => 7
  | .badRequest => 8

end Sys2Proof.Machine
end

