-- ==== Sys2Proof/Machine/Operands.lean ====
section
/-! DEFINITION. Operand access: the payload buffers (MemRead and MemWrite of 00_scope.md R15, little-endian as
20_memory.md R63 says) and the key of a frame (30_encoding.md R94). The block has no memory beside these buffers
(R60, R61). -/

namespace Sys2Proof.Machine

/-- `MemRead(k, n)` (00_scope.md R15): the n-byte little-endian value `sum_{j<n} data[k+j] << (8*j)`. -/
def memRead (d : Payload) (k : Nat) : (n : Nat) → Nat
  | 0 => 0
  | n + 1 => (d.byte k).toNat + 256 * memRead d (k + 1) n

/-- `MemRead(k, 1)`. -/
def memRead8 (d : Payload) (k : Nat) : Byte := BitVec.ofNat 8 (memRead d k 1)

/-- `MemRead16(k)`, which abbreviates `MemRead(k, 2)` (R15). -/
def memRead16 (d : Payload) (k : Nat) : U16 := BitVec.ofNat 16 (memRead d k 2)

/-- `MemRead64()`, which abbreviates `MemRead(0, 8)` (R15): the word `W` of 20_memory.md R64. -/
def memRead64 (d : Payload) : BitVec 64 := BitVec.ofNat 64 (memRead d 0 8)

/-- `MemWrite(k, n, v)` (R15): sets `data[k+j] <- (v >> (8*j)) & 0xFF` for each j < n. -/
def memWrite (d : Payload) (k : Nat) : (n : Nat) → (v : Nat) → Payload
  | 0, _ => d
  | n + 1, v => memWrite (d.setIfInBounds k (BitVec.ofNat 8 v)) (k + 1) n (v / 256)

/-- The demultiplexing key `K = (ext, rtr, id[10:0])` of a frame (30_encoding.md R94). -/
def frameKey (f : Frame) : BitVec 13 :=
  BitVec.ofBool f.ext ++ BitVec.ofBool f.rtr ++ f.id.extractLsb' 0 11

/-- What a frame holds beside its key. -/
def frameTail (f : Frame) : FrameTail := ⟨f.id.extractLsb' 11 21, f.len, f.data⟩

end Sys2Proof.Machine
end

