-- ==== Sys2Proof/Machine/Ops.lean ====
section
/-! DEFINITION. The shared operations: raising an error (the block's one way to end an operation early, 00_scope.md
R17), answering a Submit (45_dispatch.md R300), and the host's Read and Reset (60_exceptions.md R358). The block has no trap,
so there is no exception entry and no return from one (R353): an error is a value of the response (R340). -/

namespace Sys2Proof.Machine

/-! ### Errors -/

/-- An error: its kind and its two parameters (30_encoding.md R102). -/
structure Err where
  kind : ErrKind
  ea : U32
  eb : U32
deriving DecidableEq, Repr

/-- The response body of a raised error (00_scope.md R17). `wrapped` is 1 only for an error of a device decoder inside
PARSE (60_exceptions.md R350). -/
def Err.body (wrapped : Bool) (e : Err) : Body := .err e.kind.code wrapped e.ea e.eb

/-- `raise K(a, b)` (R17): the body of the error response, with `wrapped = 0`. -/
def raise (e : Err) : Body := e.body false

/-- BUFFER_TOO_SMALL(actual, required) (60_exceptions.md R342). -/
def bufferTooSmall (actual required : Nat) : Err := ⟨.bufferTooSmall, BitVec.ofNat 32 actual, BitVec.ofNat 32 required⟩

/-- INVALID_SENSOR_VALUE(field) (R343). -/
def invalidSensorValue (field : U32) : Err := ⟨.invalidSensorValue, field, 0⟩

/-- RANGE_OVERFLOW(field) (R344). -/
def rangeOverflow (field : U32) : Err := ⟨.rangeOverflow, field, 0⟩

/-- INVALID_IDENTIFIER(reason) (R345). -/
def invalidIdentifier (reason : U32) : Err := ⟨.invalidIdentifier, reason, 0⟩

/-- UNKNOWN_CLASS(class) (R346). -/
def unknownClass (c : BitVec 6) : Err := ⟨.unknownClass, c.setWidth 32, 0⟩

/-- UNKNOWN_NETWORK_COMMAND(cmd) (R347). -/
def unknownNetworkCommand (n : BitVec 3) : Err := ⟨.unknownNetworkCommand, n.setWidth 32, 0⟩

/-- INVALID_ARGUMENT(reason, value) (R348). -/
def invalidArgument (reason : U32) (value : Byte) : Err := ⟨.invalidArgument, reason, value.setWidth 32⟩

/-- BAD_REQUEST(reason, eb) (R349). -/
def badRequest (reason eb : U32) : Err := ⟨.badRequest, reason, eb⟩

/-- The error of the first check of a list that fails: "the first failing check wins" (42_network.md R185). -/
def firstFailing : List (Bool × Err) → Option Err
  | [] => none
  | (failed, e) :: rest => if failed then some e else firstFailing rest

/-! ### The host's three actions -/

/-- What a Submit leaves (45_dispatch.md R300): `resp[p] <- r` and `resp_valid[p] <- 1`, for the current port p. -/
def State.answered (s : State) (r : Response) : State :=
  { s with ports := s.ports.set s.curPort ⟨true, r⟩ }

/-- Complete the Submit on the current port with a response (R300). A port number past the last one is a fault
of the model and has no effect (60_exceptions.md R358). -/
def State.respond (s : State) (r : Response) : Host.Outcome State Fault Refusal :=
  if s.curPort < s.ports.length then .next (s.answered r) else .fault (.noSuchPort s.curPort)

/-- `Read(p)` (60_exceptions.md R358): it returns `resp[p]` and changes nothing in the block (20_memory.md R69); it faults
where `resp_valid[p] = 0` (10_state.md R35) and where the port does not exist. -/
def State.readPort (s : State) (p : Nat) : Host.Outcome State Fault Refusal :=
  match s.ports[p]? with
  | none => .fault (.noSuchPort p)
  | some port => if port.respValid then .next { s with lastRead := some port.resp } else .fault (.responseNotValid p)

/-- `Reset()` (70_reset_and_hazards.md R380): every port goes to its reset content; the configuration and the ROMs
stay, and so does what is on the host's side. -/
def State.blockReset (s : State) : State := { s with ports := s.ports.map fun _ => Port.reset }

end Sys2Proof.Machine
end

