-- ==== Sys2Proof/Machine/FixedPoint.lean ====
section
/-! DEFINITION. The binary32 format (00_scope.md R16), the fixed-point sensor conversions and the delta scales
(40_fixed_point.md R140 to R146), and the six converter ops. A conversion computes on exact integers and narrows once at
the end (R14). -/

namespace Sys2Proof.Machine

/-! ### binary32 (00_scope.md R16) -/

/-- The exponent field of a pattern. -/
def f32Exponent (f : F32) : Nat := (f.extractLsb' 23 8).toNat

/-- The fraction field of a pattern. -/
def f32Fraction (f : F32) : Nat := (f.extractLsb' 0 23).toNat

/-- The sign of a pattern: true for a negative one. -/
def f32Negative (f : F32) : Bool := f.getLsbD 31

/-- `isNaN(f)` (R16): "holds when the exponent field is all ones and the fraction is not zero". -/
def f32IsNaN (f : F32) : Bool := f32Exponent f == 255 && f32Fraction f != 0

/-- Whether a pattern is one of the two infinities (R16). -/
def f32IsInf (f : F32) : Bool := f32Exponent f == 255 && f32Fraction f == 0

/-- The denominator over which every finite value is an integer: the value of `f` is `f32Num f / f32Den`. -/
def f32Den : Nat := 2 ^ 150

/-- The numerator of a finite pattern's exact value over `f32Den` (R16: "its exact rational value, and -0.0 has value
0"): `fraction * 2^-149` for a subnormal, `(2^23 + fraction) * 2^(exponent - 150)` for a normal pattern. -/
def f32Num (f : F32) : Int :=
  let magnitude :=
    if f32Exponent f = 0 then f32Fraction f * 2 else (2 ^ 23 + f32Fraction f) * 2 ^ f32Exponent f
  if f32Negative f then -(magnitude : Int) else magnitude

/-- The integer closest to `x / d`, ties to even. -/
def roundHalfEven (x d : Nat) : Nat :=
  if 2 * (x % d) < d then x / d
  else if d < 2 * (x % d) then x / d + 1
  else x / d + (x / d) % 2

/-- The magnitude bits of the pattern closest to `a / d`, ties to even mantissa (R16). In units of 2^-149 the value is
`x / d`; its last place is `2^t` units, with `t` the least that leaves at most 24 bits; a carry out of the mantissa moves into
the exponent field by itself. PRESUMED: a magnitude of 2^128 - 2^103 or more gives the infinity (log entry 6); no
conversion of the block produces one. -/
def rneMagnitude (a d : Nat) : Nat :=
  let x := a * 2 ^ 149
  let t := Nat.log2 (x / d) - 23
  min 0x7F800000 (t * 2 ^ 23 + roundHalfEven x (d * 2 ^ t))

/-- `rne32(n / d)` (R16): "the binary32 pattern closest to the rational q, with ties to even mantissa. Zero gives the
pattern 0x00000000". DESIGN CHOICE (log entry 13): a negative rational that rounds to zero gives 0x80000000; the two zero
patterns are equally close to it, and R16 names one only for q = 0. No conversion of the block rounds such a rational. -/
def rne32 (n : Int) (d : Nat) : F32 :=
  if n = 0 then 0
  else if n < 0 then BitVec.ofNat 32 (2 ^ 31 + rneMagnitude n.natAbs d)
  else BitVec.ofNat 32 (rneMagnitude n.natAbs d)

/-- `sat(lo, hi, z) = min(hi, max(lo, z))` (R16). -/
def sat (lo hi z : Int) : Int := min hi (max lo z)

/-! ### The conversions (40_fixed_point.md) -/

/-- HumToBin (R140): floor of the exact value times 16382/100, clamped to 0..16382. -/
def humToBin (f : F32) : U16 :=
  if f32IsNaN f then 0
  else if f32IsInf f then (if f32Negative f then 0 else 16382)
  else if f32Num f ≤ 0 then 0
  else if 100 * (f32Den : Int) ≤ f32Num f then 16382
  else BitVec.ofInt 16 (f32Num f * 16382 / (100 * f32Den))

/-- BinToHum (R141): the pattern and the invalid bit. -/
def binToHum (u : U16) : F32 × Bool :=
  if 16382 < u.toNat then (nan32, true) else (rne32 (u.toNat * 100) 16382, false)

/-- TempToBin (R142): floor of (value + 40) times 16382/165, clamped to 0..16382. -/
def tempToBin (f : F32) : U16 :=
  if f32IsNaN f then 0
  else if f32IsInf f then (if f32Negative f then 0 else 16382)
  else if f32Num f ≤ -40 * (f32Den : Int) then 0
  else if 125 * (f32Den : Int) ≤ f32Num f then 16382
  else BitVec.ofInt 16 ((f32Num f + 40 * f32Den) * 16382 / (165 * f32Den))

/-- BinToTemp (R143): `u * 165 / 16382 - 40` rounded once, and the invalid bit. -/
def binToTemp (u : U16) : F32 × Bool :=
  if 16382 < u.toNat then (nan32, true) else (rne32 ((u.toNat * 165 : Int) - 40 * 16382) 16382, false)

/-- The shape of the signed scales (R144, R146): the exact value times `n / d`, truncated toward zero and saturated to
`lo..hi`; NaN gives 0 and the infinities the ends. -/
def truncScale (lo hi n d : Int) (f : F32) : Int :=
  if f32IsNaN f then 0
  else if f32IsInf f then (if f32Negative f then lo else hi)
  else sat lo hi (Int.tdiv (f32Num f * n) (f32Den * d))

/-- TmpToBin (R144): 12-bit two's complement, 16 steps per degree. -/
def tmpToBin (f : F32) : BitVec 12 := BitVec.ofInt 12 (truncScale (-2048) 2047 16 1 f)

/-- BinToTmp (R145): only `u[11:0]` is read. -/
def binToTmp (u : U16) : F32 := rne32 (u.extractLsb' 0 12).toInt 16

/-- DeltaHToBin (R146): element 0 of Zeus.DeltaTemperature. -/
def deltaHToBin (f : F32) : U16 := BitVec.ofInt 16 (truncScale (-32768) 32767 16382 165 f)

/-- BinToDeltaH (R146). -/
def binToDeltaH (w : U16) : F32 := rne32 (w.toInt * 165) 16382

/-- DeltaTToBin (R146): elements 1 to 3 of Zeus.DeltaTemperature. -/
def deltaTToBin (f : F32) : U16 := BitVec.ofInt 16 (truncScale (-32768) 32767 16 1 f)

/-- BinToDeltaT (R146). -/
def binToDeltaT (w : U16) : F32 := rne32 w.toInt 16

/-! ### The converter ops (R140 to R145, R148) -/

/-- HUM_TO_BIN (R140). -/
def execHumToBin (f : F32) (s : State) : Host.Outcome State Fault Refusal :=
  s.respond ⟨0x4, .bin (humToBin f)⟩

/-- BIN_TO_HUM (R141). -/
def execBinToHum (u : U16) (s : State) : Host.Outcome State Fault Refusal :=
  s.respond ⟨0x5, .float (binToHum u).1 (binToHum u).2⟩

/-- TEMP_TO_BIN (R142). -/
def execTempToBin (f : F32) (s : State) : Host.Outcome State Fault Refusal :=
  s.respond ⟨0x6, .bin (tempToBin f)⟩

/-- BIN_TO_TEMP (R143). -/
def execBinToTemp (u : U16) (s : State) : Host.Outcome State Fault Refusal :=
  s.respond ⟨0x7, .float (binToTemp u).1 (binToTemp u).2⟩

/-- TMP_TO_BIN (R144). -/
def execTmpToBin (f : F32) (s : State) : Host.Outcome State Fault Refusal :=
  s.respond ⟨0x8, .bin ((tmpToBin f).setWidth 16)⟩

/-- BIN_TO_TMP (R145): never the sentinel. -/
def execBinToTmp (u : U16) (s : State) : Host.Outcome State Fault Refusal :=
  s.respond ⟨0x9, .float (binToTmp u) false⟩

end Sys2Proof.Machine
end

