-- ==== Sys2Proof/Machine/Identifier.lean ====
section
/-! DEFINITION. The CAN identifier codec (41_identifier.md) and the ops ID_ENCODE and ID_DECODE. -/

namespace Sys2Proof.Machine

/-- `IdEncode(t, c, n)` (41_identifier.md R170): no masking and no range check, so wide inputs overlap. -/
def idEncode (t c n : U32) : U32 := (t <<< 9) ||| (c <<< 3) ||| n

/-- `IdDecode(id)` (R170, R172): bits 31:11 are ignored. -/
def idDecode (id : U32) : BitVec 2 × BitVec 6 × BitVec 3 :=
  (id.extractLsb' 9 2, id.extractLsb' 3 6, id.extractLsb' 0 3)

/-- ID_ENCODE (R171). -/
def execIdEncode (t c n : Byte) (s : State) : Host.Outcome State Fault Refusal :=
  s.respond ⟨0x2, .ident (idEncode (t.setWidth 32) (c.setWidth 32) (n.setWidth 32))⟩

/-- ID_DECODE (R173). -/
def execIdDecode (id : U32) (s : State) : Host.Outcome State Fault Refusal :=
  s.respond ⟨0x3, .split (idDecode id).1 (idDecode id).2.1 (idDecode id).2.2⟩

end Sys2Proof.Machine
end

