-- ==== Sys2Proof/Machine/Codec.lean ====
section
/-! DEFINITION. What every message codec shares: the frame of PARSE's answer (45_dispatch.md R301), the five parts of
an encoder (42_network.md) and their order (45_dispatch.md R310, 60_exceptions.md R351), the device contract
(43_zeus.md R220, R221) and the FanStatusAndRpm sub-codec (R222, R223). -/

namespace Sys2Proof.Machine

/-! ### PARSE -/

/-- PARSE's answer once a decoder has run (45_dispatch.md R301): its record with the identifier fields
(30_encoding.md R103), or its error, marked wrapped for the device branch only (60_exceptions.md R350). -/
def parseAnswer (tag rnode : Byte) (t : BitVec 2) (c : BitVec 6) (n : BitVec 3) (wrapped : Bool) :
    Except Err Record → Body
  | .ok r => .parsed tag rnode t c n r
  | .error e => e.body wrapped

/-- The length check that PARSE makes before any other (45_dispatch.md R302). -/
def lenChecked (len : BitVec 4) (b : Body) : Body :=
  if 8 < len.toNat then raise (badRequest 2 0) else b

/-- The size check of a decoder (43_zeus.md R220, 42_network.md): it comes before any byte is read. -/
def atLeast (len : BitVec 4) (need : Nat) (r : Except Err Record) : Except Err Record :=
  if len.toNat < need then .error (bufferTooSmall len.toNat need) else r

/-! ### ENCODE -/

/-- The five parts of a tag's encoder for one request (42_network.md: Check, L, Range, Payload, Ident), with the
enum check of 45_dispatch.md R312 and whether R313 checks the node operand. -/
structure Parts where
  /-- The lowest field that holds no valid enum value (R312). -/
  enumFault : Option U32
  /-- Whether `node > 7` is refused: device tags and MESSAGE_REQUEST (R313). -/
  nodeChecked : Bool
  /-- Check (R314). -/
  check : Option Err
  /-- L (R315). -/
  len : Nat
  /-- Range (R316). -/
  range : Option Err
  /-- Payload, written into a zeroed buffer (R316). -/
  payload : Payload
  /-- Ident: the type field. -/
  t : BitVec 2
  /-- Ident: the class field. -/
  c : BitVec 6
  /-- Ident: the node field. -/
  n : BitVec 3
  /-- Ident: the rtr flag. -/
  rtr : Bool

/-- The frame that the parts build (45_dispatch.md R317). -/
def Parts.frame (p : Parts) : Frame where
  id := idEncode (p.t.setWidth 32) (p.c.setWidth 32) (p.n.setWidth 32)
  ext := false
  rtr := p.rtr
  len := BitVec.ofNat 4 p.len
  data := p.payload

/-- The checks of ENCODE after the tag is known, in their order (45_dispatch.md R310, 60_exceptions.md R351); the frame
where none fails. -/
def runParts (o : EncOps) (p : Parts) : Body :=
  match p.enumFault with
  | some idx => raise (badRequest 4 idx)
  | none =>
    if p.nodeChecked && decide (7 < o.node.toNat) then raise (invalidArgument 0 o.node)
    else
      match p.check with
      | some e => raise e
      | none =>
        if o.cap.toNat < p.len then raise (bufferTooSmall o.cap.toNat p.len)
        else
          match p.range with
          | some e => raise e
          | none => .frame p.frame

/-- The check of ENCODE's `cap` before any other (45_dispatch.md R310). -/
def capChecked (o : EncOps) (b : Body) : Body :=
  if 8 < o.cap.toNat then raise (badRequest 3 0) else b

/-- The parts of a device message (43_zeus.md R221): no Check, a fixed length, and Ident with the type from `hp`, the
class of the tag and the node operand. -/
def deviceParts (o : EncOps) (c : BitVec 6) (len : Nat) (payload : Payload) : Parts where
  enumFault := none
  nodeChecked := true
  check := none
  len := len
  range := none
  payload := payload
  t := if o.hp then 1 else 2
  c := c
  n := o.node.setWidth 3
  rtr := false

/-- The parts of a network command (42_network.md R180): `hp` and `node` are ignored, the type is 0, the class field is
the record's and the node field is the sub-command. -/
def networkParts (c : BitVec 6) (n : BitVec 3) (check : Option Err) (len : Nat) (payload : Payload) : Parts where
  enumFault := none
  nodeChecked := false
  check := check
  len := len
  range := none
  payload := payload
  t := 0
  c := c
  n := n
  rtr := false

/-! ### FanStatusAndRpm -/

/-- FanDecode (43_zeus.md R222): stalled takes priority over aging. -/
def fanDecode (w : U16) : Fan where
  fstatus := if w.getLsbD 15 then 2 else if w.getLsbD 14 then 1 else 0
  rpm := w.extractLsb' 0 14

/-- FanEncode (43_zeus.md R223): a status is a single bit of the word. -/
def fanEncode (f : Fan) : U16 :=
  (if f.fstatus = 0 then 0 else if f.fstatus = 1 then 1 <<< 14 else 1 <<< 15) ||| f.rpm.setWidth 16

/-- The lowest field of a list whose fan status names no status (45_dispatch.md R312). -/
def firstBadFan : List (U32 × Fan) → Option U32
  | [] => none
  | (idx, f) :: rest => if f.fstatus = 3 then some idx else firstBadFan rest

end Sys2Proof.Machine
end

