-- ==== Sys2Proof/Machine/HeliosCelaenoNotus.lean ====
section
/-! DEFINITION. The codecs of the illumination unit, the humidifier and the heater
(44_helios_celaeno_notus.md R260 to R275). -/

namespace Sys2Proof.Machine

/-! ### Helios -/

/-- Decode_HELIOS_SET_POINT (44_helios_celaeno_notus.md R260). -/
def decodeHeliosSetPoint (len : BitVec 4) (d : Payload) : Except Err Record :=
  atLeast len 2 (.ok (.heliosSetPoint ⟨memRead8 d 0, memRead8 d 1⟩))

/-- Encode_HELIOS_SET_POINT (R261). -/
def partsHeliosSetPoint (o : EncOps) (c : BitVec 6) (r : HeliosSetPoint) : Parts :=
  deviceParts o c 2 (memWrite (memWrite .zero 0 1 r.visible.toNat) 1 1 r.uv.toNat)

/-- Decode_HELIOS_PULSE_MODE (R262). -/
def decodeHeliosPulseMode (len : BitVec 4) (d : Payload) : Except Err Record :=
  atLeast len 2 (.ok (.heliosPulseMode ⟨memRead16 d 0⟩))

/-- Encode_HELIOS_PULSE_MODE (R263). -/
def partsHeliosPulseMode (o : EncOps) (c : BitVec 6) (r : HeliosPulseMode) : Parts :=
  deviceParts o c 2 (memWrite .zero 0 2 r.periodMs.toNat)

/-- Decode_HELIOS_TRIGGER_MODE (R264): the camera delay is on the wire only where TRIGGER_MODE_LEN is 6. -/
def decodeHeliosTriggerMode (tml : TriggerModeLen) (len : BitVec 4) (d : Payload) : Except Err Record :=
  atLeast len tml.bytes
    (.ok (.heliosTriggerMode ⟨memRead16 d 0, memRead16 d 2, if tml = .six then memRead16 d 4 else 0⟩))

/-- Encode_HELIOS_TRIGGER_MODE (R265). -/
def partsHeliosTriggerMode (tml : TriggerModeLen) (o : EncOps) (c : BitVec 6) (r : HeliosTriggerMode) : Parts :=
  let d := memWrite (memWrite .zero 0 2 r.period100us.toNat) 2 2 r.pulseUs.toNat
  deviceParts o c tml.bytes (if tml = .six then memWrite d 4 2 r.cameraDelayUs.toNat else d)

/-! ### Celaeno -/

/-- Decode_CELAENO_SET_POINT (R266). -/
def decodeCelaenoSetPoint (len : BitVec 4) (d : Payload) : Except Err Record :=
  atLeast len 1 (.ok (.celaenoSetPoint ⟨memRead8 d 0⟩))

/-- Encode_CELAENO_SET_POINT (R267). -/
def partsCelaenoSetPoint (o : EncOps) (c : BitVec 6) (r : CelaenoSetPoint) : Parts :=
  deviceParts o c 1 (memWrite .zero 0 1 r.power.toNat)

/-- The water level of a flags byte (R268): read-error, then critical, then warning, then nominal. -/
def waterLevelDecode (w : Byte) : BitVec 2 :=
  if w.getLsbD 2 then 3 else if w.getLsbD 1 then 2 else if w.getLsbD 0 then 1 else 0

/-- The flags byte of a water level (R269). -/
def waterLevelEncode (l : BitVec 2) : Byte :=
  if l = 0 then 0x00 else if l = 1 then 0x01 else if l = 2 then 0x02 else 0x04

/-- Decode_CELAENO_STATUS (R268). -/
def decodeCelaenoStatus (len : BitVec 4) (d : Payload) : Except Err Record :=
  atLeast len 3 (.ok (.celaenoStatus ⟨waterLevelDecode (memRead8 d 0), fanDecode (memRead16 d 1)⟩))

/-- Encode_CELAENO_STATUS (R269). -/
def partsCelaenoStatus (o : EncOps) (c : BitVec 6) (r : CelaenoStatus) : Parts :=
  { deviceParts o c 3
      (memWrite (memWrite .zero 0 1 (waterLevelEncode r.waterLevel).toNat) 1 2 (fanEncode r.fan).toNat) with
    enumFault := firstBadFan [(1, r.fan)] }

/-- Decode_CELAENO_CONFIG (R270). -/
def decodeCelaenoConfig (len : BitVec 4) (d : Payload) : Except Err Record :=
  atLeast len 8
    (.ok (.celaenoConfig {
      rampUpMs := (memRead16 d 0).setWidth 32
      rampDownMs := (memRead16 d 2).setWidth 32
      minimumOnMs := (memRead16 d 4).setWidth 32
      debounceMs := (memRead16 d 6).setWidth 32 }))

/-- Encode_CELAENO_CONFIG (R271): the first field over 65535. -/
def partsCelaenoConfig (o : EncOps) (c : BitVec 6) (r : CelaenoConfig) : Parts :=
  { deviceParts o c 8
      (memWrite (memWrite (memWrite (memWrite .zero 0 2 r.rampUpMs.toNat) 2 2 r.rampDownMs.toNat)
        4 2 r.minimumOnMs.toNat) 6 2 r.debounceMs.toNat) with
    range := firstFailing [
      (decide (65535 < r.rampUpMs.toNat), rangeOverflow 0),
      (decide (65535 < r.rampDownMs.toNat), rangeOverflow 1),
      (decide (65535 < r.minimumOnMs.toNat), rangeOverflow 2),
      (decide (65535 < r.debounceMs.toNat), rangeOverflow 3)] }

/-! ### Notus -/

/-- Decode_NOTUS_SET_POINT (R272). -/
def decodeNotusSetPoint (len : BitVec 4) (d : Payload) : Except Err Record :=
  atLeast len 1 (.ok (.notusSetPoint ⟨memRead8 d 0⟩))

/-- Encode_NOTUS_SET_POINT (R273). -/
def partsNotusSetPoint (o : EncOps) (c : BitVec 6) (r : NotusSetPoint) : Parts :=
  deviceParts o c 1 (memWrite .zero 0 1 r.power.toNat)

/-- Decode_NOTUS_CONFIG (R274). -/
def decodeNotusConfig (len : BitVec 4) (d : Payload) : Except Err Record :=
  atLeast len 4 (.ok (.notusConfig ⟨memRead16 d 0, memRead8 d 2, memRead8 d 3⟩))

/-- Encode_NOTUS_CONFIG (R275). -/
def partsNotusConfig (o : EncOps) (c : BitVec 6) (r : NotusConfig) : Parts :=
  deviceParts o c 4
    (memWrite (memWrite (memWrite .zero 0 2 r.rampDownMs.toNat) 2 1 r.minFan.toNat) 3 1 r.maxHeat.toNat)

end Sys2Proof.Machine
end

