-- ==== Sys2Proof/Machine/Network.lean ====
section
/-! DEFINITION. The codecs of the network commands, the heartbeat announcement and the RTR poll (42_network.md). A
decoder checks only the length (R180); an encoder gives the five parts. -/

namespace Sys2Proof.Machine

/-! ### Decoders -/

/-- Decode_RESET (42_network.md R181). -/
def decodeReset (c : BitVec 6) (len : BitVec 4) (d : Payload) : Except Err Record :=
  atLeast len 1 (.ok (.resetRequest ⟨c, memRead8 d 0⟩))

/-- Decode_IDCHANGE (R184). -/
def decodeIdChange (c : BitVec 6) (len : BitVec 4) (d : Payload) : Except Err Record :=
  atLeast len 2 (.ok (.idChangeRequest ⟨c, memRead8 d 0, memRead8 d 1⟩))

/-- Decode_ERRORREPORT (R186): the class is the payload's, not the identifier's. -/
def decodeErrorReport (len : BitVec 4) (d : Payload) : Except Err Record :=
  atLeast len 4 (.ok (.errorReport ⟨memRead8 d 0, memRead8 d 1, memRead16 d 2⟩))

/-- Decode_HBREQUEST (R188): empty is a ping, one byte is too short. -/
def decodeHeartbeatRequest (c : BitVec 6) (len : BitVec 4) (d : Payload) : Except Err Record :=
  if len.toNat = 0 then .ok (.heartbeatRequest ⟨c, 0⟩)
  else atLeast len 2 (.ok (.heartbeatRequest ⟨c, (memRead16 d 0).setWidth 32⟩))

/-- Decode_HEARTBEAT (R191): the first min(len, 4) bytes give the version, and exactly one byte is too short. -/
def decodeHeartbeat (c : BitVec 6) (n : BitVec 3) (len : BitVec 4) (d : Payload) : Except Err Record :=
  if len.toNat = 1 then .error (bufferTooSmall 1 2)
  else .ok (.heartbeat {
    cls := c
    id := n
    major := if 2 ≤ len.toNat then memRead8 d 0 else 0
    minor := if 2 ≤ len.toNat then memRead8 d 1 else 0
    patch := if 3 ≤ len.toNat then memRead8 d 2 else 0
    tweak := if 4 ≤ len.toNat then memRead8 d 3 else 0 })

/-- Decode_RTR (R193): the length before the class. -/
def decodeRtr (cfg : Config) (c : BitVec 6) (n : BitVec 3) (len : BitVec 4) : Except Err Record :=
  if len.toNat ≠ 0 then .error (invalidIdentifier 1)
  else if (cfg.devRom c).isNone then .error (unknownClass c)
  else .ok (.messageRequest ⟨c, n⟩)

/-- The decoder of a registered NetROM entry (45_dispatch.md R306). -/
def decodeNet (k : NetKind) (c : BitVec 6) (len : BitVec 4) (d : Payload) : Except Err Record :=
  match k with
  | .reset => decodeReset c len d
  | .idChange => decodeIdChange c len d
  | .errorReport => decodeErrorReport len d
  | .heartbeatRequest => decodeHeartbeatRequest c len d

/-! ### Encoders -/

/-- Encode_RESET (R182). -/
def partsResetRequest (r : ResetRequest) : Parts :=
  networkParts r.cls 0 (firstFailing [(decide (7 < r.id.toNat), invalidArgument 6 r.id)]) 1
    (memWrite .zero 0 1 r.id.toNat)

/-- Encode_IDCHANGE (R185): the five checks in their order. -/
def partsIdChangeRequest (r : IdChangeRequest) : Parts :=
  networkParts r.cls 2
    (firstFailing [
      (decide (r.old = 0), invalidArgument 1 r.old),
      (decide (r.new = 0), invalidArgument 2 r.new),
      (decide (r.old = r.new), invalidArgument 3 r.old),
      (decide (7 < r.old.toNat), invalidArgument 4 r.old),
      (decide (7 < r.new.toNat), invalidArgument 5 r.new)])
    2 (memWrite (memWrite .zero 0 1 r.old.toNat) 1 1 r.new.toNat)

/-- Encode_HBREQUEST (R189): period 0 is the empty payload. -/
def partsHeartbeatRequest (r : HeartbeatRequest) : Parts :=
  { networkParts r.cls 7 none (if r.periodMs = 0 then 0 else 2)
      (if r.periodMs = 0 then .zero else memWrite .zero 0 2 r.periodMs.toNat) with
    range := firstFailing [(decide (65535 < r.periodMs.toNat), rangeOverflow 1)] }

/-- Encode_RTR (R194): the record's id is ignored and the node operand sets the node field. -/
def partsMessageRequest (cfg : Config) (o : EncOps) (r : MessageRequest) : Parts :=
  { deviceParts o r.cls 0 .zero with
    check := firstFailing [((cfg.devRom r.cls).isNone, unknownClass r.cls)]
    rtr := true }

end Sys2Proof.Machine
end

