-- ==== Sys2Proof/Machine/Bits.lean ====
section
/-! DEFINITION. The bit string of a request image, read and written field by field from bit 0 up (log entry 4): the
bits not yet read are a number, whose low bits come next. `Bits.read (bits w)` and `putBits` undo each other. -/

namespace Sys2Proof

/-- A reader of fields: what it returns, and the bits left over. -/
abbrev Bits := StateM Nat

/-- What a reader returns on a bit string, with the bits left over. -/
def Bits.read {α : Type} (b : Bits α) (n : Nat) : α × Nat := Id.run (StateT.run b n)

/-- Read the next `w` bits. -/
def bits (w : Nat) : Bits (BitVec w) := fun n => (BitVec.ofNat w n, n / 2 ^ w)

/-- Write `v` below the bits `rest`. -/
def putBits {w : Nat} (v : BitVec w) (rest : Nat) : Nat := v.toNat + 2 ^ w * rest

/-- Read one bit as a flag. -/
def flag : Bits Bool := fun n => (n % 2 == 1, n / 2)

/-- Write one flag below the bits `rest`. -/
def putFlag (b : Bool) (rest : Nat) : Nat := b.toNat + 2 * rest

/-- Read the eight bytes of a payload buffer, byte 0 first. -/
def readPayload : Bits Payload := do
  let b0 ← bits 8
  let b1 ← bits 8
  let b2 ← bits 8
  let b3 ← bits 8
  let b4 ← bits 8
  let b5 ← bits 8
  let b6 ← bits 8
  let b7 ← bits 8
  return #v[b0, b1, b2, b3, b4, b5, b6, b7]

/-- Write the eight bytes of a payload buffer, byte 0 lowest. -/
def putPayload (d : Payload) (rest : Nat) : Nat :=
  putBits d[0] <| putBits d[1] <| putBits d[2] <| putBits d[3] <|
  putBits d[4] <| putBits d[5] <| putBits d[6] <| putBits d[7] rest

/-- The number that a list of bytes holds, the first byte lowest. -/
def natOfBytes : List Byte → Nat
  | [] => 0
  | b :: bs => b.toNat + 256 * natOfBytes bs

/-- The `len` low bytes of a number, the lowest first. -/
def bytesOfNat : (len : Nat) → Nat → List Byte
  | 0, _ => []
  | len + 1, n => BitVec.ofNat 8 n :: bytesOfNat len (n / 256)

end Sys2Proof
end

