-- ==== Sys2Proof/Machine/Records.lean ====
section
/-! DEFINITION. The record of each encodable tag as a bit string: its fields in index order (30_encoding.md R107), each
at the width of its layout rule, from bit 0 up (log entry 4). An ENC row's words hold its record in this form, and
ENCODE reads a request's raw record bits in it once the tag says which record they are. -/

namespace Sys2Proof

/-- Read the fields of R108. -/
def readFan : Bits Fan := do
  let fstatus ← bits 2
  let rpm ← bits 14
  return ⟨fstatus, rpm⟩

/-- Write the fields of R108 below `rest`. -/
def putFan (r : Fan) (rest : Nat) : Nat :=
  putBits r.fstatus <| putBits r.rpm rest

/-- Read the fields of R109. -/
def readPDConfig : Bits PDConfig := do
  let prop ← bits 8
  let deriv ← bits 8
  let integ ← bits 8
  let divPd ← bits 8
  let divI ← bits 8
  return ⟨prop, deriv, integ, divPd, divI⟩

/-- Write the fields of R109 below `rest`. -/
def putPDConfig (r : PDConfig) (rest : Nat) : Nat :=
  putBits r.prop <| putBits r.deriv <| putBits r.integ <| putBits r.divPd <| putBits r.divI rest

/-- Read the fields of R122. -/
def readNotusSetPoint : Bits NotusSetPoint := do
  let power ← bits 8
  return ⟨power⟩

/-- Write the fields of R122 below `rest`. -/
def putNotusSetPoint (r : NotusSetPoint) (rest : Nat) : Nat :=
  putBits r.power rest

/-- Read the fields of R123. -/
def readNotusConfig : Bits NotusConfig := do
  let rampDownMs ← bits 16
  let minFan ← bits 8
  let maxHeat ← bits 8
  return ⟨rampDownMs, minFan, maxHeat⟩

/-- Write the fields of R123 below `rest`. -/
def putNotusConfig (r : NotusConfig) (rest : Nat) : Nat :=
  putBits r.rampDownMs <| putBits r.minFan <| putBits r.maxHeat rest

/-- Read the fields of R119. -/
def readCelaenoSetPoint : Bits CelaenoSetPoint := do
  let power ← bits 8
  return ⟨power⟩

/-- Write the fields of R119 below `rest`. -/
def putCelaenoSetPoint (r : CelaenoSetPoint) (rest : Nat) : Nat :=
  putBits r.power rest

/-- Read the fields of R120. -/
def readCelaenoStatus : Bits CelaenoStatus := do
  let waterLevel ← bits 2
  let fan ← readFan
  return ⟨waterLevel, fan⟩

/-- Write the fields of R120 below `rest`. -/
def putCelaenoStatus (r : CelaenoStatus) (rest : Nat) : Nat :=
  putBits r.waterLevel <| putFan r.fan rest

/-- Read the fields of R121. -/
def readCelaenoConfig : Bits CelaenoConfig := do
  let rampUpMs ← bits 32
  let rampDownMs ← bits 32
  let minimumOnMs ← bits 32
  let debounceMs ← bits 32
  return ⟨rampUpMs, rampDownMs, minimumOnMs, debounceMs⟩

/-- Write the fields of R121 below `rest`. -/
def putCelaenoConfig (r : CelaenoConfig) (rest : Nat) : Nat :=
  putBits r.rampUpMs <| putBits r.rampDownMs <| putBits r.minimumOnMs <| putBits r.debounceMs rest

/-- Read the fields of R116. -/
def readHeliosSetPoint : Bits HeliosSetPoint := do
  let visible ← bits 8
  let uv ← bits 8
  return ⟨visible, uv⟩

/-- Write the fields of R116 below `rest`. -/
def putHeliosSetPoint (r : HeliosSetPoint) (rest : Nat) : Nat :=
  putBits r.visible <| putBits r.uv rest

/-- Read the fields of R117. -/
def readHeliosPulseMode : Bits HeliosPulseMode := do
  let periodMs ← bits 16
  return ⟨periodMs⟩

/-- Write the fields of R117 below `rest`. -/
def putHeliosPulseMode (r : HeliosPulseMode) (rest : Nat) : Nat :=
  putBits r.periodMs rest

/-- Read the fields of R118. -/
def readHeliosTriggerMode : Bits HeliosTriggerMode := do
  let period100us ← bits 16
  let pulseUs ← bits 16
  let cameraDelayUs ← bits 16
  return ⟨period100us, pulseUs, cameraDelayUs⟩

/-- Write the fields of R118 below `rest`. -/
def putHeliosTriggerMode (r : HeliosTriggerMode) (rest : Nat) : Nat :=
  putBits r.period100us <| putBits r.pulseUs <| putBits r.cameraDelayUs rest

/-- Read the fields of R110. -/
def readZeusSetPoint : Bits ZeusSetPoint := do
  let humidity ← bits 32
  let temperature ← bits 32
  let wind ← bits 8
  return ⟨humidity, temperature, wind⟩

/-- Write the fields of R110 below `rest`. -/
def putZeusSetPoint (r : ZeusSetPoint) (rest : Nat) : Nat :=
  putBits r.humidity <| putBits r.temperature <| putBits r.wind rest

/-- Read the fields of R111. -/
def readZeusReport : Bits ZeusReport := do
  let humidity ← bits 32
  let temperature ← bits 32
  let aux0 ← bits 32
  let aux1 ← bits 32
  let aux2 ← bits 32
  return ⟨humidity, temperature, aux0, aux1, aux2⟩

/-- Write the fields of R111 below `rest`. -/
def putZeusReport (r : ZeusReport) (rest : Nat) : Nat :=
  putBits r.humidity <| putBits r.temperature <| putBits r.aux0 <| putBits r.aux1 <| putBits r.aux2 rest

/-- Read the fields of R112. -/
def readZeusConfig : Bits ZeusConfig := do
  let pd0 ← readPDConfig
  let pd1 ← readPDConfig
  return ⟨pd0, pd1⟩

/-- Write the fields of R112 below `rest`. -/
def putZeusConfig (r : ZeusConfig) (rest : Nat) : Nat :=
  putPDConfig r.pd0 <| putPDConfig r.pd1 rest

/-- Read the fields of R113. -/
def readZeusStatus : Bits ZeusStatus := do
  let status ← bits 8
  let fan0 ← readFan
  let fan1 ← readFan
  let fan2 ← readFan
  return ⟨status, fan0, fan1, fan2⟩

/-- Write the fields of R113 below `rest`. -/
def putZeusStatus (r : ZeusStatus) (rest : Nat) : Nat :=
  putBits r.status <| putFan r.fan0 <| putFan r.fan1 <| putFan r.fan2 rest

/-- Read the fields of R114. -/
def readZeusControlPoint : Bits ZeusControlPoint := do
  let humidity ← bits 16
  let temperature ← bits 16
  return ⟨humidity, temperature⟩

/-- Write the fields of R114 below `rest`. -/
def putZeusControlPoint (r : ZeusControlPoint) (rest : Nat) : Nat :=
  putBits r.humidity <| putBits r.temperature rest

/-- Read the fields of R115. -/
def readZeusDeltaTemperature : Bits ZeusDeltaTemperature := do
  let delta0 ← bits 32
  let delta1 ← bits 32
  let delta2 ← bits 32
  let delta3 ← bits 32
  return ⟨delta0, delta1, delta2, delta3⟩

/-- Write the fields of R115 below `rest`. -/
def putZeusDeltaTemperature (r : ZeusDeltaTemperature) (rest : Nat) : Nat :=
  putBits r.delta0 <| putBits r.delta1 <| putBits r.delta2 <| putBits r.delta3 rest

/-- Read the fields of R124. -/
def readResetRequest : Bits ResetRequest := do
  let cls ← bits 6
  let id ← bits 8
  return ⟨cls, id⟩

/-- Write the fields of R124 below `rest`. -/
def putResetRequest (r : ResetRequest) (rest : Nat) : Nat :=
  putBits r.cls <| putBits r.id rest

/-- Read the fields of R125. -/
def readIdChangeRequest : Bits IdChangeRequest := do
  let cls ← bits 6
  let old ← bits 8
  let new ← bits 8
  return ⟨cls, old, new⟩

/-- Write the fields of R125 below `rest`. -/
def putIdChangeRequest (r : IdChangeRequest) (rest : Nat) : Nat :=
  putBits r.cls <| putBits r.old <| putBits r.new rest

/-- Read the fields of R127. -/
def readHeartbeatRequest : Bits HeartbeatRequest := do
  let cls ← bits 6
  let periodMs ← bits 32
  return ⟨cls, periodMs⟩

/-- Write the fields of R127 below `rest`. -/
def putHeartbeatRequest (r : HeartbeatRequest) (rest : Nat) : Nat :=
  putBits r.cls <| putBits r.periodMs rest

/-- Read the fields of R129. -/
def readMessageRequest : Bits MessageRequest := do
  let cls ← bits 6
  let id ← bits 3
  return ⟨cls, id⟩

/-- Write the fields of R129 below `rest`. -/
def putMessageRequest (r : MessageRequest) (rest : Nat) : Nat :=
  putBits r.cls <| putBits r.id rest

/-- The raw record bits of a request whose record's bit string is `n`. -/
def rawRecord (n : Nat) : RawRecord := BitVec.ofNat 160 n

end Sys2Proof
end

