-- ==== Sys2Proof/Machine/Zeus.lean ====
section
/-! DEFINITION. The codecs of the climate controller's messages (43_zeus.md R224 to R236). -/

namespace Sys2Proof.Machine

/-- Decode_ZEUS_SET_POINT (43_zeus.md R224). -/
def decodeZeusSetPoint (len : BitVec 4) (d : Payload) : Except Err Record :=
  let h := binToHum (memRead16 d 0)
  let t := binToTemp (memRead16 d 2)
  atLeast len 5
    (if h.2 then .error (invalidSensorValue 0)
     else if t.2 then .error (invalidSensorValue 1)
     else .ok (.zeusSetPoint ⟨h.1, t.1, memRead8 d 4⟩))

/-- Encode_ZEUS_SET_POINT (R225). -/
def partsZeusSetPoint (o : EncOps) (c : BitVec 6) (r : ZeusSetPoint) : Parts :=
  deviceParts o c 5
    (memWrite (memWrite (memWrite .zero 0 2 (humToBin r.humidity).toNat) 2 2 (tempToBin r.temperature).toNat)
      4 1 r.wind.toNat)

/-- Decode_ZEUS_REPORT (R226), on the 64-bit word of 20_memory.md R64. -/
def decodeZeusReport (len : BitVec 4) (d : Payload) : Except Err Record :=
  let w := memRead64 d
  let h := binToHum ((w.extractLsb' 0 14).setWidth 16)
  let t := binToTemp ((w.extractLsb' 14 14).setWidth 16)
  atLeast len 8
    (if h.2 then .error (invalidSensorValue 0)
     else if t.2 then .error (invalidSensorValue 1)
     else .ok (.zeusReport {
       humidity := h.1
       temperature := t.1
       aux0 := binToTmp ((w.extractLsb' 28 12).setWidth 16)
       aux1 := binToTmp ((w.extractLsb' 40 12).setWidth 16)
       aux2 := binToTmp ((w.extractLsb' 52 12).setWidth 16) }))

/-- The 64-bit word of Encode_ZEUS_REPORT (R227). -/
def zeusReportWord (r : ZeusReport) : BitVec 64 :=
  (humToBin r.humidity).setWidth 64 ||| ((tempToBin r.temperature).setWidth 64 <<< 14)
    ||| ((tmpToBin r.aux0).setWidth 64 <<< 28) ||| ((tmpToBin r.aux1).setWidth 64 <<< 40)
    ||| ((tmpToBin r.aux2).setWidth 64 <<< 52)

/-- Encode_ZEUS_REPORT (R227). -/
def partsZeusReport (o : EncOps) (c : BitVec 6) (r : ZeusReport) : Parts :=
  deviceParts o c 8 (memWrite .zero 0 8 (zeusReportWord r).toNat)

/-- A PDConfig block at byte `b` (R229, 30_encoding.md R109). -/
def pdDecode (d : Payload) (b : Nat) : PDConfig where
  prop := memRead8 d b
  deriv := memRead8 d (b + 1)
  integ := memRead8 d (b + 2)
  divPd := ((memRead8 d (b + 3)).extractLsb' 0 4).setWidth 8
  divI := ((memRead8 d (b + 3)).extractLsb' 4 4).setWidth 8

/-- Decode_ZEUS_CONFIG (R229). -/
def decodeZeusConfig (len : BitVec 4) (d : Payload) : Except Err Record :=
  atLeast len 8 (.ok (.zeusConfig ⟨pdDecode d 0, pdDecode d 4⟩))

/-- Write a PDConfig block at byte `b` (R230). -/
def pdEncode (d : Payload) (b : Nat) (p : PDConfig) : Payload :=
  memWrite
    (memWrite (memWrite (memWrite d b 1 p.prop.toNat) (b + 1) 1 p.deriv.toNat) (b + 2) 1 p.integ.toNat)
    (b + 3) 1 ((p.divI <<< 4) ||| p.divPd).toNat

/-- Encode_ZEUS_CONFIG (R230): the first divider over 15 in index order. -/
def partsZeusConfig (o : EncOps) (c : BitVec 6) (r : ZeusConfig) : Parts :=
  { deviceParts o c 8 (pdEncode (pdEncode .zero 0 r.pd0) 4 r.pd1) with
    range := firstFailing [
      (decide (15 < r.pd0.divPd.toNat), rangeOverflow 3),
      (decide (15 < r.pd0.divI.toNat), rangeOverflow 4),
      (decide (15 < r.pd1.divPd.toNat), rangeOverflow 8),
      (decide (15 < r.pd1.divI.toNat), rangeOverflow 9)] }

/-- Decode_ZEUS_STATUS (R231). -/
def decodeZeusStatus (len : BitVec 4) (d : Payload) : Except Err Record :=
  atLeast len 7
    (.ok (.zeusStatus ⟨memRead8 d 0, fanDecode (memRead16 d 1), fanDecode (memRead16 d 3), fanDecode (memRead16 d 5)⟩))

/-- Encode_ZEUS_STATUS (R232). -/
def partsZeusStatus (o : EncOps) (c : BitVec 6) (r : ZeusStatus) : Parts :=
  { deviceParts o c 7
      (memWrite (memWrite (memWrite (memWrite .zero 0 1 r.status.toNat) 1 2 (fanEncode r.fan0).toNat)
        3 2 (fanEncode r.fan1).toNat) 5 2 (fanEncode r.fan2).toNat) with
    enumFault := firstBadFan [(1, r.fan0), (2, r.fan1), (3, r.fan2)] }

/-- Decode_ZEUS_CONTROL_POINT (R233). -/
def decodeZeusControlPoint (len : BitVec 4) (d : Payload) : Except Err Record :=
  atLeast len 4 (.ok (.zeusControlPoint ⟨memRead16 d 0, memRead16 d 2⟩))

/-- Encode_ZEUS_CONTROL_POINT (R234). -/
def partsZeusControlPoint (o : EncOps) (c : BitVec 6) (r : ZeusControlPoint) : Parts :=
  deviceParts o c 4 (memWrite (memWrite .zero 0 2 r.humidity.toNat) 2 2 r.temperature.toNat)

/-- Decode_ZEUS_DELTA_TEMPERATURE (R235). -/
def decodeZeusDeltaTemperature (len : BitVec 4) (d : Payload) : Except Err Record :=
  atLeast len 8
    (.ok (.zeusDeltaTemperature {
      delta0 := binToDeltaH (memRead16 d 0)
      delta1 := binToDeltaT (memRead16 d 2)
      delta2 := binToDeltaT (memRead16 d 4)
      delta3 := binToDeltaT (memRead16 d 6) }))

/-- Encode_ZEUS_DELTA_TEMPERATURE (R236). -/
def partsZeusDeltaTemperature (o : EncOps) (c : BitVec 6) (r : ZeusDeltaTemperature) : Parts :=
  deviceParts o c 8
    (memWrite (memWrite (memWrite (memWrite .zero 0 2 (deltaHToBin r.delta0).toNat)
      2 2 (deltaTToBin r.delta1).toNat) 4 2 (deltaTToBin r.delta2).toNat) 6 2 (deltaTToBin r.delta3).toNat)

end Sys2Proof.Machine
end

