-- ==== Sys2Proof/Machine/Encode.lean ====
section
/-! DEFINITION. ENCODE (45_dispatch.md R310 to R318): which tags are encodable, the encoder of each, the whole operation,
and the op ENCODE itself. -/

namespace Sys2Proof.Machine

/-- What ENCODE builds for an encodable tag. -/
inductive EncKind where
  | device (c : BitVec 6) (k : DevKind)
  | resetRequest | idChangeRequest | heartbeatRequest | messageRequest
deriving DecidableEq, Repr

/-- `Encodable(tag)` (R310): a tag below 64 whose class is registered, or one of 0x40, 0x42, 0x47 and 0x80. -/
def encKind (cfg : Config) (tag : Byte) : Option EncKind :=
  if tag.toNat < 64 then (cfg.devRom (tag.setWidth 6)).map (EncKind.device (tag.setWidth 6))
  else if tag = 0x40 then some .resetRequest
  else if tag = 0x42 then some .idChangeRequest
  else if tag = 0x47 then some .heartbeatRequest
  else if tag = 0x80 then some .messageRequest
  else none

/-- The parts of a device message whose record stands in raw bits. -/
def rawDeviceParts (cfg : Config) (o : EncOps) (c : BitVec 6) (k : DevKind) (raw : RawRecord) : Parts :=
  match k with
  | .notusSetPoint => partsNotusSetPoint o c (readNotusSetPoint.read raw.toNat).1
  | .notusConfig => partsNotusConfig o c (readNotusConfig.read raw.toNat).1
  | .celaenoSetPoint => partsCelaenoSetPoint o c (readCelaenoSetPoint.read raw.toNat).1
  | .celaenoStatus => partsCelaenoStatus o c (readCelaenoStatus.read raw.toNat).1
  | .celaenoConfig => partsCelaenoConfig o c (readCelaenoConfig.read raw.toNat).1
  | .heliosSetPoint => partsHeliosSetPoint o c (readHeliosSetPoint.read raw.toNat).1
  | .heliosPulseMode => partsHeliosPulseMode o c (readHeliosPulseMode.read raw.toNat).1
  | .heliosTriggerMode => partsHeliosTriggerMode cfg.triggerModeLen o c (readHeliosTriggerMode.read raw.toNat).1
  | .zeusSetPoint => partsZeusSetPoint o c (readZeusSetPoint.read raw.toNat).1
  | .zeusReport => partsZeusReport o c (readZeusReport.read raw.toNat).1
  | .zeusConfig => partsZeusConfig o c (readZeusConfig.read raw.toNat).1
  | .zeusStatus => partsZeusStatus o c (readZeusStatus.read raw.toNat).1
  | .zeusControlPoint => partsZeusControlPoint o c (readZeusControlPoint.read raw.toNat).1
  | .zeusDeltaTemperature => partsZeusDeltaTemperature o c (readZeusDeltaTemperature.read raw.toNat).1

/-- The parts of an encodable tag's encoder (the five parts of 42_network.md, 43_zeus.md and
44_helios_celaeno_notus.md), its record read from the request's bits. -/
def rawParts (cfg : Config) (o : EncOps) (k : EncKind) (raw : RawRecord) : Parts :=
  match k with
  | .device c k => rawDeviceParts cfg o c k raw
  | .resetRequest => partsResetRequest (readResetRequest.read raw.toNat).1
  | .idChangeRequest => partsIdChangeRequest (readIdChangeRequest.read raw.toNat).1
  | .heartbeatRequest => partsHeartbeatRequest (readHeartbeatRequest.read raw.toNat).1
  | .messageRequest => partsMessageRequest cfg o (readMessageRequest.read raw.toNat).1

/-- ENCODE (R310), step by step in the order of its pseudocode. -/
def encodeBody (cfg : Config) (o : EncOps) (tag : Byte) (raw : RawRecord) : Body :=
  if 8 < o.cap.toNat then raise (badRequest 3 0)
  else
    match encKind cfg tag with
    | none => raise (badRequest 1 0)
    | some k => runParts o (rawParts cfg o k raw)

/-- Complete an ENCODE request with its answer (R300, R310): the response echoes op 0x1. -/
def State.answerEncode (s : State) (b : Body) : Host.Outcome State Fault Refusal := s.respond ⟨0x1, b⟩

/-- ENCODE (R310). -/
def execEncode (o : EncOps) (tag : Byte) (raw : RawRecord) (s : State) : Host.Outcome State Fault Refusal :=
  s.answerEncode (encodeBody s.cfg o tag raw)

end Sys2Proof.Machine
end

