-- ==== Sys2Proof/Machine/EncRows.lean ====
section
/-! DEFINITION. The ENC rows of spec/opcode_table.json: an ENCODE request whose tag selects the row (30_encoding.md R106,
R132), its record typed. A device row builds its own message wherever DEV_CLASS_TABLE registers that message at the
row's tag; under a table that does not, the request is the ENCODE request of that tag with those record bits
(log entry 7). -/

namespace Sys2Proof.Machine

/-- A row of a tag that is no device tag (45_dispatch.md R310). -/
def State.buildMessage (s : State) (o : EncOps) (p : Parts) : Host.Outcome State Fault Refusal :=
  s.answerEncode (capChecked o (runParts o p))

/-- A row of a device tag: `p` are the parts of the row's own message, `raw` its record's bits. -/
def State.buildDevice (s : State) (o : EncOps) (c : BitVec 6) (k : DevKind) (p : Parts) (raw : RawRecord) :
    Host.Outcome State Fault Refusal :=
  if s.cfg.devRom c = some k then s.buildMessage o p
  else s.answerEncode (encodeBody s.cfg o (c.setWidth 8) raw)

/-- ENCODE.NOTUS_SET_POINT (44_helios_celaeno_notus.md R273). -/
def execEncodeNotusSetPoint (o : EncOps) (r : NotusSetPoint) (s : State) : Host.Outcome State Fault Refusal :=
  s.buildDevice o 0x2C .notusSetPoint (partsNotusSetPoint o 0x2C r) (rawRecord (putNotusSetPoint r 0))

/-- ENCODE.NOTUS_CONFIG (44_helios_celaeno_notus.md R275). -/
def execEncodeNotusConfig (o : EncOps) (r : NotusConfig) (s : State) : Host.Outcome State Fault Refusal :=
  s.buildDevice o 0x2D .notusConfig (partsNotusConfig o 0x2D r) (rawRecord (putNotusConfig r 0))

/-- ENCODE.CELAENO_SET_POINT (44_helios_celaeno_notus.md R267). -/
def execEncodeCelaenoSetPoint (o : EncOps) (r : CelaenoSetPoint) (s : State) : Host.Outcome State Fault Refusal :=
  s.buildDevice o 0x30 .celaenoSetPoint (partsCelaenoSetPoint o 0x30 r) (rawRecord (putCelaenoSetPoint r 0))

/-- ENCODE.CELAENO_STATUS (44_helios_celaeno_notus.md R269). -/
def execEncodeCelaenoStatus (o : EncOps) (r : CelaenoStatus) (s : State) : Host.Outcome State Fault Refusal :=
  s.buildDevice o 0x31 .celaenoStatus (partsCelaenoStatus o 0x31 r) (rawRecord (putCelaenoStatus r 0))

/-- ENCODE.CELAENO_CONFIG (44_helios_celaeno_notus.md R271). -/
def execEncodeCelaenoConfig (o : EncOps) (r : CelaenoConfig) (s : State) : Host.Outcome State Fault Refusal :=
  s.buildDevice o 0x32 .celaenoConfig (partsCelaenoConfig o 0x32 r) (rawRecord (putCelaenoConfig r 0))

/-- ENCODE.HELIOS_SET_POINT (44_helios_celaeno_notus.md R261). -/
def execEncodeHeliosSetPoint (o : EncOps) (r : HeliosSetPoint) (s : State) : Host.Outcome State Fault Refusal :=
  s.buildDevice o 0x34 .heliosSetPoint (partsHeliosSetPoint o 0x34 r) (rawRecord (putHeliosSetPoint r 0))

/-- ENCODE.HELIOS_PULSE_MODE (44_helios_celaeno_notus.md R263). -/
def execEncodeHeliosPulseMode (o : EncOps) (r : HeliosPulseMode) (s : State) : Host.Outcome State Fault Refusal :=
  s.buildDevice o 0x35 .heliosPulseMode (partsHeliosPulseMode o 0x35 r) (rawRecord (putHeliosPulseMode r 0))

/-- ENCODE.HELIOS_TRIGGER_MODE (44_helios_celaeno_notus.md R265). -/
def execEncodeHeliosTriggerMode (o : EncOps) (r : HeliosTriggerMode) (s : State) : Host.Outcome State Fault Refusal :=
  s.buildDevice o 0x36 .heliosTriggerMode (partsHeliosTriggerMode s.cfg.triggerModeLen o 0x36 r) (rawRecord (putHeliosTriggerMode r 0))

/-- ENCODE.ZEUS_SET_POINT (43_zeus.md R225). -/
def execEncodeZeusSetPoint (o : EncOps) (r : ZeusSetPoint) (s : State) : Host.Outcome State Fault Refusal :=
  s.buildDevice o 0x38 .zeusSetPoint (partsZeusSetPoint o 0x38 r) (rawRecord (putZeusSetPoint r 0))

/-- ENCODE.ZEUS_REPORT (43_zeus.md R227). -/
def execEncodeZeusReport (o : EncOps) (r : ZeusReport) (s : State) : Host.Outcome State Fault Refusal :=
  s.buildDevice o 0x39 .zeusReport (partsZeusReport o 0x39 r) (rawRecord (putZeusReport r 0))

/-- ENCODE.ZEUS_CONFIG (43_zeus.md R230). -/
def execEncodeZeusConfig (o : EncOps) (r : ZeusConfig) (s : State) : Host.Outcome State Fault Refusal :=
  s.buildDevice o 0x3B .zeusConfig (partsZeusConfig o 0x3B r) (rawRecord (putZeusConfig r 0))

/-- ENCODE.ZEUS_STATUS (43_zeus.md R232). -/
def execEncodeZeusStatus (o : EncOps) (r : ZeusStatus) (s : State) : Host.Outcome State Fault Refusal :=
  s.buildDevice o 0x3C .zeusStatus (partsZeusStatus o 0x3C r) (rawRecord (putZeusStatus r 0))

/-- ENCODE.ZEUS_CONTROL_POINT (43_zeus.md R234). -/
def execEncodeZeusControlPoint (o : EncOps) (r : ZeusControlPoint) (s : State) : Host.Outcome State Fault Refusal :=
  s.buildDevice o 0x3D .zeusControlPoint (partsZeusControlPoint o 0x3D r) (rawRecord (putZeusControlPoint r 0))

/-- ENCODE.ZEUS_DELTA_TEMPERATURE (43_zeus.md R236). -/
def execEncodeZeusDeltaTemperature (o : EncOps) (r : ZeusDeltaTemperature) (s : State) : Host.Outcome State Fault Refusal :=
  s.buildDevice o 0x3E .zeusDeltaTemperature (partsZeusDeltaTemperature o 0x3E r) (rawRecord (putZeusDeltaTemperature r 0))

/-- ENCODE.RESET_REQUEST (42_network.md R182). -/
def execEncodeResetRequest (o : EncOps) (r : ResetRequest) (s : State) : Host.Outcome State Fault Refusal :=
  s.buildMessage o (partsResetRequest r)

/-- ENCODE.ID_CHANGE_REQUEST (42_network.md R185). -/
def execEncodeIdChangeRequest (o : EncOps) (r : IdChangeRequest) (s : State) : Host.Outcome State Fault Refusal :=
  s.buildMessage o (partsIdChangeRequest r)

/-- ENCODE.HEARTBEAT_REQUEST (42_network.md R189). -/
def execEncodeHeartbeatRequest (o : EncOps) (r : HeartbeatRequest) (s : State) : Host.Outcome State Fault Refusal :=
  s.buildMessage o (partsHeartbeatRequest r)

/-- ENCODE.MESSAGE_REQUEST (42_network.md R194). -/
def execEncodeMessageRequest (o : EncOps) (r : MessageRequest) (s : State) : Host.Outcome State Fault Refusal :=
  s.buildMessage o (partsMessageRequest s.cfg o r)

/-- ENCODE.NOT_ENCODABLE (45_dispatch.md R311, 30_encoding.md R132): a tag that no other row names. Under another
DEV_CLASS_TABLE such a tag may be a device's, and then its encoder runs. -/
def execEncodeNotEncodable (o : EncOps) (tag : Byte) (raw : RawRecord) (s : State) :
    Host.Outcome State Fault Refusal :=
  s.answerEncode (encodeBody s.cfg o tag raw)

end Sys2Proof.Machine
end

