-- ==== Sys2Proof/Machine/Parse.lean ====
section
/-! DEFINITION. PARSE (45_dispatch.md R301 to R309): the branches of the demultiplexer, the whole operation, and the op
PARSE itself. -/

namespace Sys2Proof.Machine

/-- The decoder of a device message (43_zeus.md R220, 44_helios_celaeno_notus.md). -/
def decodeDevice (cfg : Config) (k : DevKind) (len : BitVec 4) (d : Payload) : Except Err Record :=
  match k with
  | .notusSetPoint => decodeNotusSetPoint len d
  | .notusConfig => decodeNotusConfig len d
  | .celaenoSetPoint => decodeCelaenoSetPoint len d
  | .celaenoStatus => decodeCelaenoStatus len d
  | .celaenoConfig => decodeCelaenoConfig len d
  | .heliosSetPoint => decodeHeliosSetPoint len d
  | .heliosPulseMode => decodeHeliosPulseMode len d
  | .heliosTriggerMode => decodeHeliosTriggerMode cfg.triggerModeLen len d
  | .zeusSetPoint => decodeZeusSetPoint len d
  | .zeusReport => decodeZeusReport len d
  | .zeusConfig => decodeZeusConfig len d
  | .zeusStatus => decodeZeusStatus len d
  | .zeusControlPoint => decodeZeusControlPoint len d
  | .zeusDeltaTemperature => decodeZeusDeltaTemperature len d

/-! ### The branches -/

/-- The RTR branch for types 1 and 2 (45_dispatch.md R305, 42_network.md R193). -/
def parseRtr (cfg : Config) (t : BitVec 2) (c : BitVec 6) (n : BitVec 3) (len : BitVec 4) : Body :=
  parseAnswer tagMessageRequest (n.setWidth 8) t c n false (decodeRtr cfg c n len)

/-- A network command whose decoder has run (R306): `rnode` is 0 (42_network.md R195) and no error is wrapped. -/
def parseNetAnswer (tag : Byte) (c : BitVec 6) (n : BitVec 3) (r : Except Err Record) : Body :=
  parseAnswer tag 0 0 c n false r

/-- The network branch (R306): the node field is the sub-command and selects the NetROM entry. -/
def parseNet (c : BitVec 6) (n : BitVec 3) (len : BitVec 4) (d : Payload) : Body :=
  match netRom n with
  | none => raise (unknownNetworkCommand n)
  | some k => parseNetAnswer k.tag c n (decodeNet k c len d)

/-- The heartbeat branch (R307): neither the class nor the node is looked up. -/
def parseHeartbeat (c : BitVec 6) (n : BitVec 3) (len : BitVec 4) (d : Payload) : Body :=
  parseAnswer tagHeartbeat (n.setWidth 8) 3 c n false (decodeHeartbeat c n len d)

/-- The device branch (R308): DevROM selects the decoder, whose errors are wrapped; an unregistered class is an error
that is not. The tag is the class (30_encoding.md R106). -/
def parseDevice (cfg : Config) (t : BitVec 2) (c : BitVec 6) (n : BitVec 3) (len : BitVec 4) (d : Payload) : Body :=
  match cfg.devRom c with
  | none => raise (unknownClass c)
  | some k => parseAnswer (c.setWidth 8) (n.setWidth 8) t c n true (decodeDevice cfg k len d)

/-! ### The operation -/

/-- PARSE (R301), step by step in the order of its pseudocode. -/
def parseBody (cfg : Config) (f : Frame) : Body :=
  if 8 < f.len.toNat then raise (badRequest 2 0)
  else if f.ext then raise (invalidIdentifier 0)
  else
    let (t, c, n) := idDecode f.id
    if f.rtr then
      if t = 0 ∨ t = 3 then raise (invalidIdentifier 2)
      else parseRtr cfg t c n f.len
    else if t = 0 then parseNet c n f.len f.data
    else if t = 3 then parseHeartbeat c n f.len f.data
    else parseDevice cfg t c n f.len f.data

/-- Complete a PARSE request with its answer (R300, R301): the response echoes op 0x0. -/
def State.answerParse (s : State) (b : Body) : Host.Outcome State Fault Refusal := s.respond ⟨0x0, b⟩

/-- PARSE (R301). -/
def execParse (f : Frame) (s : State) : Host.Outcome State Fault Refusal :=
  s.answerParse (parseBody s.cfg f)

end Sys2Proof.Machine
end

