-- ==== Sys2Proof/Machine/FrameRows.lean ====
section
/-! DEFINITION. The FRAME rows of spec/opcode_table.json: a PARSE request whose key selects the row (30_encoding.md R94,
R130), each row its own branch of the demultiplexer. Every row makes the length check first (45_dispatch.md R302). A device
row looks its class up in DevROM (R308), so it runs the row's own decoder wherever the table registers it there. -/

namespace Sys2Proof.Machine

/-- A row whose key is enough to reject the frame (30_encoding.md R131). -/
def State.rejectFrame (s : State) (x : FrameTail) (e : Err) : Host.Outcome State Fault Refusal :=
  s.answerParse (lenChecked x.len (raise e))

/-- A row of a network command with a decoder (42_network.md). -/
def State.answerNet (s : State) (k : NetKind) (c : BitVec 6) (n : BitVec 3) (x : FrameTail) :
    Host.Outcome State Fault Refusal :=
  s.answerParse (lenChecked x.len (parseNetAnswer k.tag c n (decodeNet k c x.len x.data)))

/-- A row of the device branch (45_dispatch.md R308). -/
def State.answerDevice (s : State) (t : BitVec 2) (c : BitVec 6) (n : BitVec 3) (x : FrameTail) :
    Host.Outcome State Fault Refusal :=
  s.answerParse (lenChecked x.len (parseDevice s.cfg t c n x.len x.data))

/-- PARSE.EXTENDED_REJECT (45_dispatch.md R303): whatever the id and rtr bits are. -/
def execParseExtendedReject (s : State) (x : FrameTail) : Host.Outcome State Fault Refusal :=
  s.rejectFrame x (invalidIdentifier 0)

/-- PARSE.RTR_NETWORK_REJECT (R305). -/
def execParseRtrNetworkReject (s : State) (x : FrameTail) : Host.Outcome State Fault Refusal :=
  s.rejectFrame x (invalidIdentifier 2)

/-- PARSE.RTR_HEARTBEAT_REJECT (R305). -/
def execParseRtrHeartbeatReject (s : State) (x : FrameTail) : Host.Outcome State Fault Refusal :=
  s.rejectFrame x (invalidIdentifier 2)

/-- PARSE.RTR_POLL_HP (42_network.md R193). -/
def execParseRtrPollHp (s : State) (c : BitVec 6) (n : BitVec 3) (x : FrameTail) : Host.Outcome State Fault Refusal :=
  s.answerParse (lenChecked x.len (parseRtr s.cfg 1 c n x.len))

/-- PARSE.RTR_POLL_STD (R193). -/
def execParseRtrPollStd (s : State) (c : BitVec 6) (n : BitVec 3) (x : FrameTail) : Host.Outcome State Fault Refusal :=
  s.answerParse (lenChecked x.len (parseRtr s.cfg 2 c n x.len))

/-- PARSE.NET.RESET_REQUEST (42_network.md R181). -/
def execParseNetResetRequest (s : State) (c : BitVec 6) (x : FrameTail) : Host.Outcome State Fault Refusal :=
  s.answerNet .reset c 0 x

/-- PARSE.NET.SYNCHRONISATION_RESERVED (R183). -/
def execParseNetSynchronisationReserved (s : State) (x : FrameTail) : Host.Outcome State Fault Refusal :=
  s.rejectFrame x (unknownNetworkCommand 1)

/-- PARSE.NET.ID_CHANGE_REQUEST (R184). -/
def execParseNetIdChangeRequest (s : State) (c : BitVec 6) (x : FrameTail) : Host.Outcome State Fault Refusal :=
  s.answerNet .idChange c 2 x

/-- PARSE.NET.ERROR_REPORT (R186). -/
def execParseNetErrorReport (s : State) (c : BitVec 6) (x : FrameTail) : Host.Outcome State Fault Refusal :=
  s.answerNet .errorReport c 3 x

/-- PARSE.NET.NETCMD4_UNKNOWN (R190). -/
def execParseNetNetcmd4Unknown (s : State) (x : FrameTail) : Host.Outcome State Fault Refusal :=
  s.rejectFrame x (unknownNetworkCommand 4)

/-- PARSE.NET.NETCMD5_UNKNOWN (R190). -/
def execParseNetNetcmd5Unknown (s : State) (x : FrameTail) : Host.Outcome State Fault Refusal :=
  s.rejectFrame x (unknownNetworkCommand 5)

/-- PARSE.NET.NETCMD6_UNKNOWN (R190). -/
def execParseNetNetcmd6Unknown (s : State) (x : FrameTail) : Host.Outcome State Fault Refusal :=
  s.rejectFrame x (unknownNetworkCommand 6)

/-- PARSE.NET.HEARTBEAT_REQUEST (R188). -/
def execParseNetHeartbeatRequest (s : State) (c : BitVec 6) (x : FrameTail) : Host.Outcome State Fault Refusal :=
  s.answerNet .heartbeatRequest c 7 x

/-- PARSE.HEARTBEAT (R191). -/
def execParseHeartbeat (s : State) (c : BitVec 6) (n : BitVec 3) (x : FrameTail) : Host.Outcome State Fault Refusal :=
  s.answerParse (lenChecked x.len (parseHeartbeat c n x.len x.data))

/-- PARSE.NOTUS_SET_POINT.HP (44_helios_celaeno_notus.md R272, 45_dispatch.md R308): high-priority frames of class 0x2C. -/
def execParseNotusSetPointHp (s : State) (n : BitVec 3) (x : FrameTail) : Host.Outcome State Fault Refusal :=
  s.answerDevice 1 0x2C n x

/-- PARSE.NOTUS_CONFIG.HP (44_helios_celaeno_notus.md R274, 45_dispatch.md R308): high-priority frames of class 0x2D. -/
def execParseNotusConfigHp (s : State) (n : BitVec 3) (x : FrameTail) : Host.Outcome State Fault Refusal :=
  s.answerDevice 1 0x2D n x

/-- PARSE.CELAENO_SET_POINT.HP (44_helios_celaeno_notus.md R266, 45_dispatch.md R308): high-priority frames of class 0x30. -/
def execParseCelaenoSetPointHp (s : State) (n : BitVec 3) (x : FrameTail) : Host.Outcome State Fault Refusal :=
  s.answerDevice 1 0x30 n x

/-- PARSE.CELAENO_STATUS.HP (44_helios_celaeno_notus.md R268, 45_dispatch.md R308): high-priority frames of class 0x31. -/
def execParseCelaenoStatusHp (s : State) (n : BitVec 3) (x : FrameTail) : Host.Outcome State Fault Refusal :=
  s.answerDevice 1 0x31 n x

/-- PARSE.CELAENO_CONFIG.HP (44_helios_celaeno_notus.md R270, 45_dispatch.md R308): high-priority frames of class 0x32. -/
def execParseCelaenoConfigHp (s : State) (n : BitVec 3) (x : FrameTail) : Host.Outcome State Fault Refusal :=
  s.answerDevice 1 0x32 n x

/-- PARSE.HELIOS_SET_POINT.HP (44_helios_celaeno_notus.md R260, 45_dispatch.md R308): high-priority frames of class 0x34. -/
def execParseHeliosSetPointHp (s : State) (n : BitVec 3) (x : FrameTail) : Host.Outcome State Fault Refusal :=
  s.answerDevice 1 0x34 n x

/-- PARSE.HELIOS_PULSE_MODE.HP (44_helios_celaeno_notus.md R262, 45_dispatch.md R308): high-priority frames of class 0x35. -/
def execParseHeliosPulseModeHp (s : State) (n : BitVec 3) (x : FrameTail) : Host.Outcome State Fault Refusal :=
  s.answerDevice 1 0x35 n x

/-- PARSE.HELIOS_TRIGGER_MODE.HP (44_helios_celaeno_notus.md R264, 45_dispatch.md R308): high-priority frames of class 0x36. -/
def execParseHeliosTriggerModeHp (s : State) (n : BitVec 3) (x : FrameTail) : Host.Outcome State Fault Refusal :=
  s.answerDevice 1 0x36 n x

/-- PARSE.ZEUS_SET_POINT.HP (43_zeus.md R224, 45_dispatch.md R308): high-priority frames of class 0x38. -/
def execParseZeusSetPointHp (s : State) (n : BitVec 3) (x : FrameTail) : Host.Outcome State Fault Refusal :=
  s.answerDevice 1 0x38 n x

/-- PARSE.ZEUS_REPORT.HP (43_zeus.md R226, 45_dispatch.md R308): high-priority frames of class 0x39. -/
def execParseZeusReportHp (s : State) (n : BitVec 3) (x : FrameTail) : Host.Outcome State Fault Refusal :=
  s.answerDevice 1 0x39 n x

/-- PARSE.ZEUS_CONFIG.HP (43_zeus.md R229, 45_dispatch.md R308): high-priority frames of class 0x3B. -/
def execParseZeusConfigHp (s : State) (n : BitVec 3) (x : FrameTail) : Host.Outcome State Fault Refusal :=
  s.answerDevice 1 0x3B n x

/-- PARSE.ZEUS_STATUS.HP (43_zeus.md R231, 45_dispatch.md R308): high-priority frames of class 0x3C. -/
def execParseZeusStatusHp (s : State) (n : BitVec 3) (x : FrameTail) : Host.Outcome State Fault Refusal :=
  s.answerDevice 1 0x3C n x

/-- PARSE.ZEUS_CONTROL_POINT.HP (43_zeus.md R233, 45_dispatch.md R308): high-priority frames of class 0x3D. -/
def execParseZeusControlPointHp (s : State) (n : BitVec 3) (x : FrameTail) : Host.Outcome State Fault Refusal :=
  s.answerDevice 1 0x3D n x

/-- PARSE.ZEUS_DELTA_TEMPERATURE.HP (43_zeus.md R235, 45_dispatch.md R308): high-priority frames of class 0x3E. -/
def execParseZeusDeltaTemperatureHp (s : State) (n : BitVec 3) (x : FrameTail) : Host.Outcome State Fault Refusal :=
  s.answerDevice 1 0x3E n x

/-- PARSE.UNKNOWN_CLASS.HP (45_dispatch.md R308): high-priority frames of a class that no other row names. Under another
DEV_CLASS_TABLE such a class may be registered, and then its decoder runs. -/
def execParseUnknownClassHp (s : State) (c : BitVec 6) (n : BitVec 3) (x : FrameTail) :
    Host.Outcome State Fault Refusal :=
  s.answerDevice 1 c n x

/-- PARSE.NOTUS_SET_POINT.STD (44_helios_celaeno_notus.md R272, 45_dispatch.md R308): standard frames of class 0x2C. -/
def execParseNotusSetPointStd (s : State) (n : BitVec 3) (x : FrameTail) : Host.Outcome State Fault Refusal :=
  s.answerDevice 2 0x2C n x

/-- PARSE.NOTUS_CONFIG.STD (44_helios_celaeno_notus.md R274, 45_dispatch.md R308): standard frames of class 0x2D. -/
def execParseNotusConfigStd (s : State) (n : BitVec 3) (x : FrameTail) : Host.Outcome State Fault Refusal :=
  s.answerDevice 2 0x2D n x

/-- PARSE.CELAENO_SET_POINT.STD (44_helios_celaeno_notus.md R266, 45_dispatch.md R308): standard frames of class 0x30. -/
def execParseCelaenoSetPointStd (s : State) (n : BitVec 3) (x : FrameTail) : Host.Outcome State Fault Refusal :=
  s.answerDevice 2 0x30 n x

/-- PARSE.CELAENO_STATUS.STD (44_helios_celaeno_notus.md R268, 45_dispatch.md R308): standard frames of class 0x31. -/
def execParseCelaenoStatusStd (s : State) (n : BitVec 3) (x : FrameTail) : Host.Outcome State Fault Refusal :=
  s.answerDevice 2 0x31 n x

/-- PARSE.CELAENO_CONFIG.STD (44_helios_celaeno_notus.md R270, 45_dispatch.md R308): standard frames of class 0x32. -/
def execParseCelaenoConfigStd (s : State) (n : BitVec 3) (x : FrameTail) : Host.Outcome State Fault Refusal :=
  s.answerDevice 2 0x32 n x

/-- PARSE.HELIOS_SET_POINT.STD (44_helios_celaeno_notus.md R260, 45_dispatch.md R308): standard frames of class 0x34. -/
def execParseHeliosSetPointStd (s : State) (n : BitVec 3) (x : FrameTail) : Host.Outcome State Fault Refusal :=
  s.answerDevice 2 0x34 n x

/-- PARSE.HELIOS_PULSE_MODE.STD (44_helios_celaeno_notus.md R262, 45_dispatch.md R308): standard frames of class 0x35. -/
def execParseHeliosPulseModeStd (s : State) (n : BitVec 3) (x : FrameTail) : Host.Outcome State Fault Refusal :=
  s.answerDevice 2 0x35 n x

/-- PARSE.HELIOS_TRIGGER_MODE.STD (44_helios_celaeno_notus.md R264, 45_dispatch.md R308): standard frames of class 0x36. -/
def execParseHeliosTriggerModeStd (s : State) (n : BitVec 3) (x : FrameTail) : Host.Outcome State Fault Refusal :=
  s.answerDevice 2 0x36 n x

/-- PARSE.ZEUS_SET_POINT.STD (43_zeus.md R224, 45_dispatch.md R308): standard frames of class 0x38. -/
def execParseZeusSetPointStd (s : State) (n : BitVec 3) (x : FrameTail) : Host.Outcome State Fault Refusal :=
  s.answerDevice 2 0x38 n x

/-- PARSE.ZEUS_REPORT.STD (43_zeus.md R226, 45_dispatch.md R308): standard frames of class 0x39. -/
def execParseZeusReportStd (s : State) (n : BitVec 3) (x : FrameTail) : Host.Outcome State Fault Refusal :=
  s.answerDevice 2 0x39 n x

/-- PARSE.ZEUS_CONFIG.STD (43_zeus.md R229, 45_dispatch.md R308): standard frames of class 0x3B. -/
def execParseZeusConfigStd (s : State) (n : BitVec 3) (x : FrameTail) : Host.Outcome State Fault Refusal :=
  s.answerDevice 2 0x3B n x

/-- PARSE.ZEUS_STATUS.STD (43_zeus.md R231, 45_dispatch.md R308): standard frames of class 0x3C. -/
def execParseZeusStatusStd (s : State) (n : BitVec 3) (x : FrameTail) : Host.Outcome State Fault Refusal :=
  s.answerDevice 2 0x3C n x

/-- PARSE.ZEUS_CONTROL_POINT.STD (43_zeus.md R233, 45_dispatch.md R308): standard frames of class 0x3D. -/
def execParseZeusControlPointStd (s : State) (n : BitVec 3) (x : FrameTail) : Host.Outcome State Fault Refusal :=
  s.answerDevice 2 0x3D n x

/-- PARSE.ZEUS_DELTA_TEMPERATURE.STD (43_zeus.md R235, 45_dispatch.md R308): standard frames of class 0x3E. -/
def execParseZeusDeltaTemperatureStd (s : State) (n : BitVec 3) (x : FrameTail) : Host.Outcome State Fault Refusal :=
  s.answerDevice 2 0x3E n x

/-- PARSE.UNKNOWN_CLASS.STD (45_dispatch.md R308): standard frames of a class that no other row names. Under another
DEV_CLASS_TABLE such a class may be registered, and then its decoder runs. -/
def execParseUnknownClassStd (s : State) (c : BitVec 6) (n : BitVec 3) (x : FrameTail) :
    Host.Outcome State Fault Refusal :=
  s.answerDevice 2 c n x

end Sys2Proof.Machine
end

