-- ==== Sys2Proof/Machine/Reserved.lean ====
section
/-! DEFINITION. The reserved op codes 0xA to 0xF (30_encoding.md R96): the error response BAD_REQUEST(0), which echoes
the op code, and no other effect, whatever the operands are. -/

namespace Sys2Proof.Machine

/-- A request with a reserved op code (R96, 60_exceptions.md R349). -/
def State.rejectOp (s : State) (op : BitVec 4) : Host.Outcome State Fault Refusal :=
  s.respond ⟨op, raise (badRequest 0 0)⟩

/-- RESERVED_OP_A (R96). -/
def execReservedOpA (s : State) : Host.Outcome State Fault Refusal := s.rejectOp 0xA

/-- RESERVED_OP_B (R96). -/
def execReservedOpB (s : State) : Host.Outcome State Fault Refusal := s.rejectOp 0xB

/-- RESERVED_OP_C (R96). -/
def execReservedOpC (s : State) : Host.Outcome State Fault Refusal := s.rejectOp 0xC

/-- RESERVED_OP_D (R96). -/
def execReservedOpD (s : State) : Host.Outcome State Fault Refusal := s.rejectOp 0xD

/-- RESERVED_OP_E (R96). -/
def execReservedOpE (s : State) : Host.Outcome State Fault Refusal := s.rejectOp 0xE

/-- RESERVED_OP_F (R96). -/
def execReservedOpF (s : State) : Host.Outcome State Fault Refusal := s.rejectOp 0xF

end Sys2Proof.Machine
end

