-- ==== Sys2Proof/Machine/Dispatch.lean ====
section
/-! DEFINITION. The meaning of every instruction: one arm for each constructor of `Instr`. -/

namespace Sys2Proof.Machine

def exec (i : Instr) (s : State) : Host.Outcome State Fault Refusal :=
  match i with
  | .parse f => Sys2Proof.Machine.execParse f s
  | .encode o tag rec => Sys2Proof.Machine.execEncode o tag rec s
  | .idEncode t c n => Sys2Proof.Machine.execIdEncode t c n s
  | .idDecode id => Sys2Proof.Machine.execIdDecode id s
  | .humToBin f => Sys2Proof.Machine.execHumToBin f s
  | .binToHum u => Sys2Proof.Machine.execBinToHum u s
  | .tempToBin f => Sys2Proof.Machine.execTempToBin f s
  | .binToTemp u => Sys2Proof.Machine.execBinToTemp u s
  | .tmpToBin f => Sys2Proof.Machine.execTmpToBin f s
  | .binToTmp u => Sys2Proof.Machine.execBinToTmp u s
  | .reservedOpA _ => Sys2Proof.Machine.execReservedOpA s
  | .reservedOpB _ => Sys2Proof.Machine.execReservedOpB s
  | .reservedOpC _ => Sys2Proof.Machine.execReservedOpC s
  | .reservedOpD _ => Sys2Proof.Machine.execReservedOpD s
  | .reservedOpE _ => Sys2Proof.Machine.execReservedOpE s
  | .reservedOpF _ => Sys2Proof.Machine.execReservedOpF s
  | .parseExtendedReject _ _ _ _ x => Sys2Proof.Machine.execParseExtendedReject s x
  | .parseRtrNetworkReject _ _ x => Sys2Proof.Machine.execParseRtrNetworkReject s x
  | .parseRtrHeartbeatReject _ _ x => Sys2Proof.Machine.execParseRtrHeartbeatReject s x
  | .parseRtrPollHp c n x => Sys2Proof.Machine.execParseRtrPollHp s c n x
  | .parseRtrPollStd c n x => Sys2Proof.Machine.execParseRtrPollStd s c n x
  | .parseNetResetRequest c x => Sys2Proof.Machine.execParseNetResetRequest s c x
  | .parseNetSynchronisationReserved _ x => Sys2Proof.Machine.execParseNetSynchronisationReserved s x
  | .parseNetIdChangeRequest c x => Sys2Proof.Machine.execParseNetIdChangeRequest s c x
  | .parseNetErrorReport c x => Sys2Proof.Machine.execParseNetErrorReport s c x
  | .parseNetNetcmd4Unknown _ x => Sys2Proof.Machine.execParseNetNetcmd4Unknown s x
  | .parseNetNetcmd5Unknown _ x => Sys2Proof.Machine.execParseNetNetcmd5Unknown s x
  | .parseNetNetcmd6Unknown _ x => Sys2Proof.Machine.execParseNetNetcmd6Unknown s x
  | .parseNetHeartbeatRequest c x => Sys2Proof.Machine.execParseNetHeartbeatRequest s c x
  | .parseHeartbeat c n x => Sys2Proof.Machine.execParseHeartbeat s c n x
  | .parseNotusSetPointHp n x => Sys2Proof.Machine.execParseNotusSetPointHp s n x
  | .parseNotusConfigHp n x => Sys2Proof.Machine.execParseNotusConfigHp s n x
  | .parseCelaenoSetPointHp n x => Sys2Proof.Machine.execParseCelaenoSetPointHp s n x
  | .parseCelaenoStatusHp n x => Sys2Proof.Machine.execParseCelaenoStatusHp s n x
  | .parseCelaenoConfigHp n x => Sys2Proof.Machine.execParseCelaenoConfigHp s n x
  | .parseHeliosSetPointHp n x => Sys2Proof.Machine.execParseHeliosSetPointHp s n x
  | .parseHeliosPulseModeHp n x => Sys2Proof.Machine.execParseHeliosPulseModeHp s n x
  | .parseHeliosTriggerModeHp n x => Sys2Proof.Machine.execParseHeliosTriggerModeHp s n x
  | .parseZeusSetPointHp n x => Sys2Proof.Machine.execParseZeusSetPointHp s n x
  | .parseZeusReportHp n x => Sys2Proof.Machine.execParseZeusReportHp s n x
  | .parseZeusConfigHp n x => Sys2Proof.Machine.execParseZeusConfigHp s n x
  | .parseZeusStatusHp n x => Sys2Proof.Machine.execParseZeusStatusHp s n x
  | .parseZeusControlPointHp n x => Sys2Proof.Machine.execParseZeusControlPointHp s n x
  | .parseZeusDeltaTemperatureHp n x => Sys2Proof.Machine.execParseZeusDeltaTemperatureHp s n x
  | .parseUnknownClassHp c n x => Sys2Proof.Machine.execParseUnknownClassHp s c n x
  | .parseNotusSetPointStd n x => Sys2Proof.Machine.execParseNotusSetPointStd s n x
  | .parseNotusConfigStd n x => Sys2Proof.Machine.execParseNotusConfigStd s n x
  | .parseCelaenoSetPointStd n x => Sys2Proof.Machine.execParseCelaenoSetPointStd s n x
  | .parseCelaenoStatusStd n x => Sys2Proof.Machine.execParseCelaenoStatusStd s n x
  | .parseCelaenoConfigStd n x => Sys2Proof.Machine.execParseCelaenoConfigStd s n x
  | .parseHeliosSetPointStd n x => Sys2Proof.Machine.execParseHeliosSetPointStd s n x
  | .parseHeliosPulseModeStd n x => Sys2Proof.Machine.execParseHeliosPulseModeStd s n x
  | .parseHeliosTriggerModeStd n x => Sys2Proof.Machine.execParseHeliosTriggerModeStd s n x
  | .parseZeusSetPointStd n x => Sys2Proof.Machine.execParseZeusSetPointStd s n x
  | .parseZeusReportStd n x => Sys2Proof.Machine.execParseZeusReportStd s n x
  | .parseZeusConfigStd n x => Sys2Proof.Machine.execParseZeusConfigStd s n x
  | .parseZeusStatusStd n x => Sys2Proof.Machine.execParseZeusStatusStd s n x
  | .parseZeusControlPointStd n x => Sys2Proof.Machine.execParseZeusControlPointStd s n x
  | .parseZeusDeltaTemperatureStd n x => Sys2Proof.Machine.execParseZeusDeltaTemperatureStd s n x
  | .parseUnknownClassStd c n x => Sys2Proof.Machine.execParseUnknownClassStd s c n x
  | .encodeNotusSetPoint o r => Sys2Proof.Machine.execEncodeNotusSetPoint o r s
  | .encodeNotusConfig o r => Sys2Proof.Machine.execEncodeNotusConfig o r s
  | .encodeCelaenoSetPoint o r => Sys2Proof.Machine.execEncodeCelaenoSetPoint o r s
  | .encodeCelaenoStatus o r => Sys2Proof.Machine.execEncodeCelaenoStatus o r s
  | .encodeCelaenoConfig o r => Sys2Proof.Machine.execEncodeCelaenoConfig o r s
  | .encodeHeliosSetPoint o r => Sys2Proof.Machine.execEncodeHeliosSetPoint o r s
  | .encodeHeliosPulseMode o r => Sys2Proof.Machine.execEncodeHeliosPulseMode o r s
  | .encodeHeliosTriggerMode o r => Sys2Proof.Machine.execEncodeHeliosTriggerMode o r s
  | .encodeZeusSetPoint o r => Sys2Proof.Machine.execEncodeZeusSetPoint o r s
  | .encodeZeusReport o r => Sys2Proof.Machine.execEncodeZeusReport o r s
  | .encodeZeusConfig o r => Sys2Proof.Machine.execEncodeZeusConfig o r s
  | .encodeZeusStatus o r => Sys2Proof.Machine.execEncodeZeusStatus o r s
  | .encodeZeusControlPoint o r => Sys2Proof.Machine.execEncodeZeusControlPoint o r s
  | .encodeZeusDeltaTemperature o r => Sys2Proof.Machine.execEncodeZeusDeltaTemperature o r s
  | .encodeResetRequest o r => Sys2Proof.Machine.execEncodeResetRequest o r s
  | .encodeIdChangeRequest o r => Sys2Proof.Machine.execEncodeIdChangeRequest o r s
  | .encodeHeartbeatRequest o r => Sys2Proof.Machine.execEncodeHeartbeatRequest o r s
  | .encodeMessageRequest o r => Sys2Proof.Machine.execEncodeMessageRequest o r s
  | .encodeNotEncodable o tag rec => Sys2Proof.Machine.execEncodeNotEncodable o tag rec s

end Sys2Proof.Machine
end

