-- ==== Sys2Proof/WellFormed.lean ====
section
/-! DEFINITION. Which instruction terms stand for a row's own words. The operand types already hold every width of
30_encoding.md R95 to R100; two rows are fallbacks ("applies only where no other ENC row matches", R130), and
their words are those that no other row of their form matches. -/

namespace Sys2Proof

/-- The tags that an ENC row of spec/opcode_table.json names (R106, column E, under the default table). -/
def encTableTags : List Byte :=
  [0x2C, 0x2D, 0x30, 0x31, 0x32, 0x34, 0x35, 0x36, 0x38, 0x39, 0x3B, 0x3C, 0x3D, 0x3E, 0x40, 0x42, 0x47, 0x80]

/-- A term is well formed when its words are its own row's and no other's. -/
def Instr.wf : Instr → Bool
  | .parseUnknownClassHp c _ _ => (defaultDevClass c).isNone
  | .parseUnknownClassStd c _ _ => (defaultDevClass c).isNone
  | .encodeNotEncodable _ tag _ => !encTableTags.contains tag
  | .parse _
  | .encode _ _ _
  | .idEncode _ _ _
  | .idDecode _
  | .humToBin _
  | .binToHum _
  | .tempToBin _
  | .binToTemp _
  | .tmpToBin _
  | .binToTmp _
  | .reservedOpA _
  | .reservedOpB _
  | .reservedOpC _
  | .reservedOpD _
  | .reservedOpE _
  | .reservedOpF _
  | .parseExtendedReject _ _ _ _ _
  | .parseRtrNetworkReject _ _ _
  | .parseRtrHeartbeatReject _ _ _
  | .parseRtrPollHp _ _ _
  | .parseRtrPollStd _ _ _
  | .parseNetResetRequest _ _
  | .parseNetSynchronisationReserved _ _
  | .parseNetIdChangeRequest _ _
  | .parseNetErrorReport _ _
  | .parseNetNetcmd4Unknown _ _
  | .parseNetNetcmd5Unknown _ _
  | .parseNetNetcmd6Unknown _ _
  | .parseNetHeartbeatRequest _ _
  | .parseHeartbeat _ _ _
  | .parseNotusSetPointHp _ _
  | .parseNotusConfigHp _ _
  | .parseCelaenoSetPointHp _ _
  | .parseCelaenoStatusHp _ _
  | .parseCelaenoConfigHp _ _
  | .parseHeliosSetPointHp _ _
  | .parseHeliosPulseModeHp _ _
  | .parseHeliosTriggerModeHp _ _
  | .parseZeusSetPointHp _ _
  | .parseZeusReportHp _ _
  | .parseZeusConfigHp _ _
  | .parseZeusStatusHp _ _
  | .parseZeusControlPointHp _ _
  | .parseZeusDeltaTemperatureHp _ _
  | .parseNotusSetPointStd _ _
  | .parseNotusConfigStd _ _
  | .parseCelaenoSetPointStd _ _
  | .parseCelaenoStatusStd _ _
  | .parseCelaenoConfigStd _ _
  | .parseHeliosSetPointStd _ _
  | .parseHeliosPulseModeStd _ _
  | .parseHeliosTriggerModeStd _ _
  | .parseZeusSetPointStd _ _
  | .parseZeusReportStd _ _
  | .parseZeusConfigStd _ _
  | .parseZeusStatusStd _ _
  | .parseZeusControlPointStd _ _
  | .parseZeusDeltaTemperatureStd _ _
  | .encodeNotusSetPoint _ _
  | .encodeNotusConfig _ _
  | .encodeCelaenoSetPoint _ _
  | .encodeCelaenoStatus _ _
  | .encodeCelaenoConfig _ _
  | .encodeHeliosSetPoint _ _
  | .encodeHeliosPulseMode _ _
  | .encodeHeliosTriggerMode _ _
  | .encodeZeusSetPoint _ _
  | .encodeZeusReport _ _
  | .encodeZeusConfig _ _
  | .encodeZeusStatus _ _
  | .encodeZeusControlPoint _ _
  | .encodeZeusDeltaTemperature _ _
  | .encodeResetRequest _ _
  | .encodeIdChangeRequest _ _
  | .encodeHeartbeatRequest _ _
  | .encodeMessageRequest _ _ => true

end Sys2Proof
end

