-- ==== Sys2Proof/Decode.lean ====
section
/-! DEFINITION. Decoding a request image into an instruction, total on any bytes and rejecting by name, and the
encoder that writes a well-formed instruction's image. The selection tables are those of spec/opcode_table.json:
op codes (30_encoding.md R95, R96), the demultiplexing map over the key (R94, R130), tags (R106, R132). Where
the operand fields lie in an image is log entry 4. -/

namespace Sys2Proof

/-- The length of a request image in bytes: enough for the longest request (log entry 4). -/
def imageBytes : Nat := 24

/-! ### Operand groups -/

/-- Read PARSE's operands in the order of R97. -/
def readFrame : Bits Frame := do
  let id ← bits 32
  let ext ← flag
  let rtr ← flag
  let len ← bits 4
  let data ← readPayload
  return ⟨id, ext, rtr, len, data⟩

/-- Write PARSE's operands. -/
def putFrame (f : Frame) (rest : Nat) : Nat :=
  putBits f.id <| putFlag f.ext <| putFlag f.rtr <| putBits f.len <| putPayload f.data rest

/-- Read what follows the key in a FRAME-form image. -/
def readTail : Bits FrameTail := do
  let idHi ← bits 21
  let len ← bits 4
  let data ← readPayload
  return ⟨idHi, len, data⟩

/-- Write what follows the key in a FRAME-form image. -/
def putTail (x : FrameTail) (rest : Nat) : Nat :=
  putBits x.idHi <| putBits x.len <| putPayload x.data rest

/-- Read ENCODE's operands between the tag and the record, in the order of R98. -/
def readEncOps : Bits EncOps := do
  let hp ← flag
  let node ← bits 8
  let cap ← bits 4
  return ⟨hp, node, cap⟩

/-- Write ENCODE's operands between the tag and the record. -/
def putEncOps (o : EncOps) (rest : Nat) : Nat :=
  putFlag o.hp <| putBits o.node <| putBits o.cap rest

/-! ### Selection -/

/-- The REQ rows: the op code selects the operation (R95, R96). -/
def readReq : Bits Instr := do
  let op ← bits 4
  match op with
  | 0x0 => return .parse (← readFrame)
  | 0x1 =>
    let tag ← bits 8
    let o ← readEncOps
    return .encode o tag (← bits 160)
  | 0x2 =>
    let t ← bits 8
    let c ← bits 8
    return .idEncode t c (← bits 8)
  | 0x3 => return .idDecode (← bits 32)
  | 0x4 => return .humToBin (← bits 32)
  | 0x5 => return .binToHum (← bits 16)
  | 0x6 => return .tempToBin (← bits 32)
  | 0x7 => return .binToTemp (← bits 16)
  | 0x8 => return .tmpToBin (← bits 32)
  | 0x9 => return .binToTmp (← bits 16)
  | 0xA => return .reservedOpA (← bits 188)
  | 0xB => return .reservedOpB (← bits 188)
  | 0xC => return .reservedOpC (← bits 188)
  | 0xD => return .reservedOpD (← bits 188)
  | 0xE => return .reservedOpE (← bits 188)
  | _ => return .reservedOpF (← bits 188)

/-- The device branch of the map for type 1 (R130): a class of the table selects its message, any other class the
fallback row. -/
def selectDeviceHp (c : BitVec 6) (n : BitVec 3) (x : FrameTail) : Instr :=
  match defaultDevClass c with
  | some .notusSetPoint => .parseNotusSetPointHp n x
  | some .notusConfig => .parseNotusConfigHp n x
  | some .celaenoSetPoint => .parseCelaenoSetPointHp n x
  | some .celaenoStatus => .parseCelaenoStatusHp n x
  | some .celaenoConfig => .parseCelaenoConfigHp n x
  | some .heliosSetPoint => .parseHeliosSetPointHp n x
  | some .heliosPulseMode => .parseHeliosPulseModeHp n x
  | some .heliosTriggerMode => .parseHeliosTriggerModeHp n x
  | some .zeusSetPoint => .parseZeusSetPointHp n x
  | some .zeusReport => .parseZeusReportHp n x
  | some .zeusConfig => .parseZeusConfigHp n x
  | some .zeusStatus => .parseZeusStatusHp n x
  | some .zeusControlPoint => .parseZeusControlPointHp n x
  | some .zeusDeltaTemperature => .parseZeusDeltaTemperatureHp n x
  | none => .parseUnknownClassHp c n x

/-- The device branch of the map for type 2 (R130): a class of the table selects its message, any other class the
fallback row. -/
def selectDeviceStd (c : BitVec 6) (n : BitVec 3) (x : FrameTail) : Instr :=
  match defaultDevClass c with
  | some .notusSetPoint => .parseNotusSetPointStd n x
  | some .notusConfig => .parseNotusConfigStd n x
  | some .celaenoSetPoint => .parseCelaenoSetPointStd n x
  | some .celaenoStatus => .parseCelaenoStatusStd n x
  | some .celaenoConfig => .parseCelaenoConfigStd n x
  | some .heliosSetPoint => .parseHeliosSetPointStd n x
  | some .heliosPulseMode => .parseHeliosPulseModeStd n x
  | some .heliosTriggerMode => .parseHeliosTriggerModeStd n x
  | some .zeusSetPoint => .parseZeusSetPointStd n x
  | some .zeusReport => .parseZeusReportStd n x
  | some .zeusConfig => .parseZeusConfigStd n x
  | some .zeusStatus => .parseZeusStatusStd n x
  | some .zeusControlPoint => .parseZeusControlPointStd n x
  | some .zeusDeltaTemperature => .parseZeusDeltaTemperatureStd n x
  | none => .parseUnknownClassStd c n x

/-- The network branch of the map (R130, 90_conflicts.md C1): the node field is the sub-command. -/
def selectNet (c : BitVec 6) (n : BitVec 3) (x : FrameTail) : Instr :=
  match n with
  | 0 => .parseNetResetRequest c x
  | 1 => .parseNetSynchronisationReserved c x
  | 2 => .parseNetIdChangeRequest c x
  | 3 => .parseNetErrorReport c x
  | 4 => .parseNetNetcmd4Unknown c x
  | 5 => .parseNetNetcmd5Unknown c x
  | 6 => .parseNetNetcmd6Unknown c x
  | _ => .parseNetHeartbeatRequest c x

/-- The FRAME rows: the demultiplexing map over the fields of the key `K = (ext, rtr, type, class, node)` (R94, R130). -/
def selectKey (ext rtr : Bool) (t : BitVec 2) (c : BitVec 6) (n : BitVec 3) (x : FrameTail) : Instr :=
  match ext, rtr, t with
  | true, _, _ => .parseExtendedReject rtr t c n x
  | false, true, 0 => .parseRtrNetworkReject c n x
  | false, true, 1 => .parseRtrPollHp c n x
  | false, true, 2 => .parseRtrPollStd c n x
  | false, true, _ => .parseRtrHeartbeatReject c n x
  | false, false, 0 => selectNet c n x
  | false, false, 1 => selectDeviceHp c n x
  | false, false, 2 => selectDeviceStd c n x
  | false, false, _ => .parseHeartbeat c n x

/-- A FRAME-form image: the key from bit 0 up (node, class, type, rtr, ext: R94), then the rest of the frame. -/
def readFrameForm : Bits Instr := do
  let n ← bits 3
  let c ← bits 6
  let t ← bits 2
  let rtr ← flag
  let ext ← flag
  return selectKey ext rtr t c n (← readTail)

/-- An ENC-form image: the tag selects the record (R106); any other tag is the fallback row (R132). -/
def readEncForm : Bits Instr := do
  let tag ← bits 8
  let o ← readEncOps
  match tag with
  | 0x2C => return .encodeNotusSetPoint o (← readNotusSetPoint)
  | 0x2D => return .encodeNotusConfig o (← readNotusConfig)
  | 0x30 => return .encodeCelaenoSetPoint o (← readCelaenoSetPoint)
  | 0x31 => return .encodeCelaenoStatus o (← readCelaenoStatus)
  | 0x32 => return .encodeCelaenoConfig o (← readCelaenoConfig)
  | 0x34 => return .encodeHeliosSetPoint o (← readHeliosSetPoint)
  | 0x35 => return .encodeHeliosPulseMode o (← readHeliosPulseMode)
  | 0x36 => return .encodeHeliosTriggerMode o (← readHeliosTriggerMode)
  | 0x38 => return .encodeZeusSetPoint o (← readZeusSetPoint)
  | 0x39 => return .encodeZeusReport o (← readZeusReport)
  | 0x3B => return .encodeZeusConfig o (← readZeusConfig)
  | 0x3C => return .encodeZeusStatus o (← readZeusStatus)
  | 0x3D => return .encodeZeusControlPoint o (← readZeusControlPoint)
  | 0x3E => return .encodeZeusDeltaTemperature o (← readZeusDeltaTemperature)
  | 0x40 => return .encodeResetRequest o (← readResetRequest)
  | 0x42 => return .encodeIdChangeRequest o (← readIdChangeRequest)
  | 0x47 => return .encodeHeartbeatRequest o (← readHeartbeatRequest)
  | 0x80 => return .encodeMessageRequest o (← readMessageRequest)
  | _ => return .encodeNotEncodable o tag (← bits 160)

/-- The reader of each form. -/
def readForm : Form → Bits Instr
  | .req => readReq
  | .frame => readFrameForm
  | .enc => readEncForm

/-- Decode a request image. Every image of `imageBytes` bytes whose bits above the last operand are clear is a request
of the spec; any other is rejected by name. -/
def decode (img : Image) : Except DecodeError Instr :=
  if img.bytes.length = imageBytes then
    match (readForm img.form).read (natOfBytes img.bytes) with
    | (i, 0) => .ok i
    | (_, _ + 1) => .error .trailingBits
  else .error (.wrongLength img.bytes.length)

/-! ### The encoder -/

/-- The form of each row (column "format" of spec/opcode_table.json). -/
def Instr.form : Instr → Form
  | .parse _ => .req
  | .encode _ _ _ => .req
  | .idEncode _ _ _ => .req
  | .idDecode _ => .req
  | .humToBin _ => .req
  | .binToHum _ => .req
  | .tempToBin _ => .req
  | .binToTemp _ => .req
  | .tmpToBin _ => .req
  | .binToTmp _ => .req
  | .reservedOpA _ => .req
  | .reservedOpB _ => .req
  | .reservedOpC _ => .req
  | .reservedOpD _ => .req
  | .reservedOpE _ => .req
  | .reservedOpF _ => .req
  | .parseExtendedReject _ _ _ _ _ => .frame
  | .parseRtrNetworkReject _ _ _ => .frame
  | .parseRtrHeartbeatReject _ _ _ => .frame
  | .parseRtrPollHp _ _ _ => .frame
  | .parseRtrPollStd _ _ _ => .frame
  | .parseNetResetRequest _ _ => .frame
  | .parseNetSynchronisationReserved _ _ => .frame
  | .parseNetIdChangeRequest _ _ => .frame
  | .parseNetErrorReport _ _ => .frame
  | .parseNetNetcmd4Unknown _ _ => .frame
  | .parseNetNetcmd5Unknown _ _ => .frame
  | .parseNetNetcmd6Unknown _ _ => .frame
  | .parseNetHeartbeatRequest _ _ => .frame
  | .parseHeartbeat _ _ _ => .frame
  | .parseNotusSetPointHp _ _ => .frame
  | .parseNotusConfigHp _ _ => .frame
  | .parseCelaenoSetPointHp _ _ => .frame
  | .parseCelaenoStatusHp _ _ => .frame
  | .parseCelaenoConfigHp _ _ => .frame
  | .parseHeliosSetPointHp _ _ => .frame
  | .parseHeliosPulseModeHp _ _ => .frame
  | .parseHeliosTriggerModeHp _ _ => .frame
  | .parseZeusSetPointHp _ _ => .frame
  | .parseZeusReportHp _ _ => .frame
  | .parseZeusConfigHp _ _ => .frame
  | .parseZeusStatusHp _ _ => .frame
  | .parseZeusControlPointHp _ _ => .frame
  | .parseZeusDeltaTemperatureHp _ _ => .frame
  | .parseUnknownClassHp _ _ _ => .frame
  | .parseNotusSetPointStd _ _ => .frame
  | .parseNotusConfigStd _ _ => .frame
  | .parseCelaenoSetPointStd _ _ => .frame
  | .parseCelaenoStatusStd _ _ => .frame
  | .parseCelaenoConfigStd _ _ => .frame
  | .parseHeliosSetPointStd _ _ => .frame
  | .parseHeliosPulseModeStd _ _ => .frame
  | .parseHeliosTriggerModeStd _ _ => .frame
  | .parseZeusSetPointStd _ _ => .frame
  | .parseZeusReportStd _ _ => .frame
  | .parseZeusConfigStd _ _ => .frame
  | .parseZeusStatusStd _ _ => .frame
  | .parseZeusControlPointStd _ _ => .frame
  | .parseZeusDeltaTemperatureStd _ _ => .frame
  | .parseUnknownClassStd _ _ _ => .frame
  | .encodeNotusSetPoint _ _ => .enc
  | .encodeNotusConfig _ _ => .enc
  | .encodeCelaenoSetPoint _ _ => .enc
  | .encodeCelaenoStatus _ _ => .enc
  | .encodeCelaenoConfig _ _ => .enc
  | .encodeHeliosSetPoint _ _ => .enc
  | .encodeHeliosPulseMode _ _ => .enc
  | .encodeHeliosTriggerMode _ _ => .enc
  | .encodeZeusSetPoint _ _ => .enc
  | .encodeZeusReport _ _ => .enc
  | .encodeZeusConfig _ _ => .enc
  | .encodeZeusStatus _ _ => .enc
  | .encodeZeusControlPoint _ _ => .enc
  | .encodeZeusDeltaTemperature _ _ => .enc
  | .encodeResetRequest _ _ => .enc
  | .encodeIdChangeRequest _ _ => .enc
  | .encodeHeartbeatRequest _ _ => .enc
  | .encodeMessageRequest _ _ => .enc
  | .encodeNotEncodable _ _ _ => .enc

/-- The bits of a REQ-form image. -/
def putReq {w : Nat} (op : BitVec 4) (v : BitVec w) : Nat := putBits op <| putBits v 0

/-- The bits of a FRAME-form image. -/
def putKey (ext rtr : Bool) (t : BitVec 2) (c : BitVec 6) (n : BitVec 3) (x : FrameTail) : Nat :=
  putBits n <| putBits c <| putBits t <| putFlag rtr <| putFlag ext <| putTail x 0

/-- The bits of an ENC-form image. -/
def putEnc (tag : Byte) (o : EncOps) (rec : Nat) : Nat := putBits tag <| putEncOps o rec

/-- The bits of each instruction's image, from the match values of spec/opcode_table.json. -/
def Instr.imageNat : Instr → Nat
  | .parse f => putBits (0x0 : BitVec 4) <| putFrame f 0
  | .encode o tag rec => putBits (0x1 : BitVec 4) <| putBits tag <| putEncOps o <| putBits rec 0
  | .idEncode t c n => putBits (0x2 : BitVec 4) <| putBits t <| putBits c <| putBits n 0
  | .idDecode id => putReq 0x3 id
  | .humToBin f => putReq 0x4 f
  | .binToHum u => putReq 0x5 u
  | .tempToBin f => putReq 0x6 f
  | .binToTemp u => putReq 0x7 u
  | .tmpToBin f => putReq 0x8 f
  | .binToTmp u => putReq 0x9 u
  | .reservedOpA operands => putReq 0xA operands
  | .reservedOpB operands => putReq 0xB operands
  | .reservedOpC operands => putReq 0xC operands
  | .reservedOpD operands => putReq 0xD operands
  | .reservedOpE operands => putReq 0xE operands
  | .reservedOpF operands => putReq 0xF operands
  | .parseExtendedReject rtr t c n x => putKey true rtr t c n x
  | .parseRtrNetworkReject c n x => putKey false true 0 c n x
  | .parseRtrHeartbeatReject c n x => putKey false true 3 c n x
  | .parseRtrPollHp c n x => putKey false true 1 c n x
  | .parseRtrPollStd c n x => putKey false true 2 c n x
  | .parseNetResetRequest c x => putKey false false 0 c 0 x
  | .parseNetSynchronisationReserved c x => putKey false false 0 c 1 x
  | .parseNetIdChangeRequest c x => putKey false false 0 c 2 x
  | .parseNetErrorReport c x => putKey false false 0 c 3 x
  | .parseNetNetcmd4Unknown c x => putKey false false 0 c 4 x
  | .parseNetNetcmd5Unknown c x => putKey false false 0 c 5 x
  | .parseNetNetcmd6Unknown c x => putKey false false 0 c 6 x
  | .parseNetHeartbeatRequest c x => putKey false false 0 c 7 x
  | .parseHeartbeat c n x => putKey false false 3 c n x
  | .parseNotusSetPointHp n x => putKey false false 1 0x2C n x
  | .parseNotusConfigHp n x => putKey false false 1 0x2D n x
  | .parseCelaenoSetPointHp n x => putKey false false 1 0x30 n x
  | .parseCelaenoStatusHp n x => putKey false false 1 0x31 n x
  | .parseCelaenoConfigHp n x => putKey false false 1 0x32 n x
  | .parseHeliosSetPointHp n x => putKey false false 1 0x34 n x
  | .parseHeliosPulseModeHp n x => putKey false false 1 0x35 n x
  | .parseHeliosTriggerModeHp n x => putKey false false 1 0x36 n x
  | .parseZeusSetPointHp n x => putKey false false 1 0x38 n x
  | .parseZeusReportHp n x => putKey false false 1 0x39 n x
  | .parseZeusConfigHp n x => putKey false false 1 0x3B n x
  | .parseZeusStatusHp n x => putKey false false 1 0x3C n x
  | .parseZeusControlPointHp n x => putKey false false 1 0x3D n x
  | .parseZeusDeltaTemperatureHp n x => putKey false false 1 0x3E n x
  | .parseUnknownClassHp c n x => putKey false false 1 c n x
  | .parseNotusSetPointStd n x => putKey false false 2 0x2C n x
  | .parseNotusConfigStd n x => putKey false false 2 0x2D n x
  | .parseCelaenoSetPointStd n x => putKey false false 2 0x30 n x
  | .parseCelaenoStatusStd n x => putKey false false 2 0x31 n x
  | .parseCelaenoConfigStd n x => putKey false false 2 0x32 n x
  | .parseHeliosSetPointStd n x => putKey false false 2 0x34 n x
  | .parseHeliosPulseModeStd n x => putKey false false 2 0x35 n x
  | .parseHeliosTriggerModeStd n x => putKey false false 2 0x36 n x
  | .parseZeusSetPointStd n x => putKey false false 2 0x38 n x
  | .parseZeusReportStd n x => putKey false false 2 0x39 n x
  | .parseZeusConfigStd n x => putKey false false 2 0x3B n x
  | .parseZeusStatusStd n x => putKey false false 2 0x3C n x
  | .parseZeusControlPointStd n x => putKey false false 2 0x3D n x
  | .parseZeusDeltaTemperatureStd n x => putKey false false 2 0x3E n x
  | .parseUnknownClassStd c n x => putKey false false 2 c n x
  | .encodeNotusSetPoint o r => putEnc 0x2C o (putNotusSetPoint r 0)
  | .encodeNotusConfig o r => putEnc 0x2D o (putNotusConfig r 0)
  | .encodeCelaenoSetPoint o r => putEnc 0x30 o (putCelaenoSetPoint r 0)
  | .encodeCelaenoStatus o r => putEnc 0x31 o (putCelaenoStatus r 0)
  | .encodeCelaenoConfig o r => putEnc 0x32 o (putCelaenoConfig r 0)
  | .encodeHeliosSetPoint o r => putEnc 0x34 o (putHeliosSetPoint r 0)
  | .encodeHeliosPulseMode o r => putEnc 0x35 o (putHeliosPulseMode r 0)
  | .encodeHeliosTriggerMode o r => putEnc 0x36 o (putHeliosTriggerMode r 0)
  | .encodeZeusSetPoint o r => putEnc 0x38 o (putZeusSetPoint r 0)
  | .encodeZeusReport o r => putEnc 0x39 o (putZeusReport r 0)
  | .encodeZeusConfig o r => putEnc 0x3B o (putZeusConfig r 0)
  | .encodeZeusStatus o r => putEnc 0x3C o (putZeusStatus r 0)
  | .encodeZeusControlPoint o r => putEnc 0x3D o (putZeusControlPoint r 0)
  | .encodeZeusDeltaTemperature o r => putEnc 0x3E o (putZeusDeltaTemperature r 0)
  | .encodeResetRequest o r => putEnc 0x40 o (putResetRequest r 0)
  | .encodeIdChangeRequest o r => putEnc 0x42 o (putIdChangeRequest r 0)
  | .encodeHeartbeatRequest o r => putEnc 0x47 o (putHeartbeatRequest r 0)
  | .encodeMessageRequest o r => putEnc 0x80 o (putMessageRequest r 0)
  | .encodeNotEncodable o tag rec => putEnc tag o (putBits rec 0)

/-- The image of an instruction. -/
def encode (i : Instr) : Image := ⟨i.form, bytesOfNat imageBytes i.imageNat⟩

/-! ### The opcode table's words -/

/-- The image that holds a word of spec/opcode_table.json, its higher bits clear: a FRAME row's 13-bit key takes two
bytes, a REQ row's op code and an ENC row's tag one byte. An op code is below 16 and no ENC row of the table
names a tag below 16, so the value tells them apart (log entry 5). -/
def tableImage (nbits w : Nat) : Image :=
  ⟨if 8 < nbits then .frame else if w < 16 then .req else .enc, bytesOfNat imageBytes (w % 2 ^ nbits)⟩

/-- The instruction the decoder reads from a word of the opcode table. -/
def decodeTableWord (nbits w : Nat) : Option Instr :=
  match decode (tableImage nbits w) with
  | .ok i => some i
  | .error _ => none

end Sys2Proof
end

