-- ==== Sys2Proof/Machine/Fetch.lean ====
section
/-! DEFINITION. What the next step of the machine does: it takes the next host action (60_exceptions.md R358), and for a Submit
it decodes the request's image (log entries 3 and 4). The block itself fetches nothing (10_state.md R32). -/

namespace Sys2Proof.Machine

/-- What the next host action asks of the block. -/
inductive Fetched where
  /-- No action is left: the block waits for the host (70_reset_and_hazards.md R387). -/
  | idle
  /-- A Submit of the instruction `i`, to be run on the state `s`. -/
  | run (i : Instr) (s : State)
  /-- A Read, a Reset or a Submit whose image is no request, with its outcome. -/
  | done (o : Host.Outcome State Fault Refusal)

/-- Take the next host action off the list. -/
def fetch (s : State) : Fetched :=
  match s.pending with
  | [] => .idle
  | .submit p img :: rest =>
    match decode img with
    | .ok i => .run i { s with curPort := p, pending := rest }
    | .error why => .done (.refused (.malformedImage why))
  | .read p :: rest => .done ({ s with pending := rest }.readPort p)
  | .reset :: rest => .done (.next { s with pending := rest }.blockReset)

end Sys2Proof.Machine
end

