-- ==== Sys2Proof/Machine/Step.lean ====
section
/-! DEFINITION. One step of the machine: the next host action, atomic and whole (45_dispatch.md R300, 20_memory.md
R68). With no action left the block waits, and a step changes nothing. -/

namespace Sys2Proof.Machine

/-- One step: the next host action of the list. -/
def step (s : State) : Host.Outcome State Fault Refusal :=
  match fetch s with
  | .idle => .next s
  | .run i s' => exec i s'
  | .done o => o

/-- The state in which the next host action submits, on port 0, the request that holds a word of the opcode table
(log entry 5). -/
def State.withFetchWord (s : State) (nbits w : Nat) : State :=
  { s with pending := .submit 0 (tableImage nbits w) :: s.pending }

end Sys2Proof.Machine
end

