-- ==== Sys2Proof/Safety.lean ====
section
/-! DEFINITION. What claims about the block call safe: a response in one of the layouts of 30_encoding.md R101 to
R105, a state whose valid responses all are, and a host action that the spec allows (60_exceptions.md R358,
70_reset_and_hazards.md R383, R384). -/

namespace Sys2Proof.Machine

/-- The current port exists: a Submit on it completes (60_exceptions.md R358). -/
abbrev State.portReady (s : State) : Prop := s.curPort < s.ports.length

/-- The tags a PARSE answer can hold for each type field (30_encoding.md R106, R130): a network command's, the
heartbeat's, or the class itself and the poll's. -/
def parsedTagLegal (tag : Byte) (t : BitVec 2) (c : BitVec 6) : Bool :=
  if t = 0 then tag == 0x40 || tag == 0x42 || tag == 0x43 || tag == 0x47
  else if t = 3 then tag == 0x48
  else tag == c.setWidth 8 || tag == 0x80

/-- A body that a transaction of op code `op` may give:
an error has a kind of R341 and comes from PARSE, ENCODE or a reserved op (R351), and only PARSE wraps one, of kind
1 or 2 (R350);
a PARSE answer returns the NodeID of 42_network.md R195;
an ENCODE answer is a frame as 30_encoding.md R104 says;
the other ops answer in the layout of R105, `invalid` marking exactly the sentinel. -/
def Body.legal (op : BitVec 4) : Body → Bool
  | .err k w _ _ =>
    decide (1 ≤ k.toNat ∧ k.toNat ≤ 8) && (!w || (op == 0 && (k == 1 || k == 2)))
      && (op == 0 || op == 1 || decide (10 ≤ op.toNat))
  | .parsed tag rnode t c n _ =>
    op == 0 && (rnode == if t = 0 then 0 else n.setWidth 8) && parsedTagLegal tag t c
  | .frame f =>
    op == 1 && !f.ext && decide (f.id.toNat < 2 ^ 11) && decide (f.len.toNat ≤ 8)
      && (List.range 8).all fun k => decide (k < f.len.toNat) || f.data.byte k == 0
  | .ident _ => op == 2
  | .split _ _ _ => op == 3
  | .bin _ => op == 4 || op == 6 || op == 8
  | .float f inv => (op == 5 || op == 7 || op == 9) && (inv == (f == nan32))

/-- A response is legal when its body is, for the op code it echoes. -/
def Response.legal (r : Response) : Bool := r.body.legal r.op

/-- A port is legal when its response is, wherever it is valid (10_state.md R35). -/
def Port.legal (p : Port) : Bool := !p.respValid || p.resp.legal

/-- The invariant of the block: there is a port (00_scope.md R9), every valid response is legal, and so is what the
host last read. -/
abbrev State.Inv (s : State) : Prop :=
  0 < s.ports.length ∧ s.ports.all Port.legal = true ∧ s.lastRead.all Response.legal = true

/-- An action the spec allows in a state: a Submit of a request on an existing port, a Read of an existing port whose
response is valid (R358, R384), a Reset. -/
def State.allows (s : State) : HostAction → Prop
  | .submit p img => p < s.ports.length ∧ ∃ i, decode img = .ok i
  | .read p => ∃ port, s.ports[p]? = some port ∧ port.respValid = true
  | .reset => True

/-- A step is safe when the next action, if there is one, is allowed. -/
def State.safe (s : State) : Prop := ∀ a, s.pending.head? = some a → s.allows a

/-- The op code that a request of an instruction carries and its response echoes (30_encoding.md R95, R101): a FRAME
row is a PARSE request, an ENC row an ENCODE request. -/
def opCode : Instr → BitVec 4
  | .idEncode _ _ _ => 0x2
  | .idDecode _ => 0x3
  | .humToBin _ => 0x4
  | .binToHum _ => 0x5
  | .tempToBin _ => 0x6
  | .binToTemp _ => 0x7
  | .tmpToBin _ => 0x8
  | .binToTmp _ => 0x9
  | .reservedOpA _ => 0xA
  | .reservedOpB _ => 0xB
  | .reservedOpC _ => 0xC
  | .reservedOpD _ => 0xD
  | .reservedOpE _ => 0xE
  | .reservedOpF _ => 0xF
  | .encode _ _ _ => 0x1
  | i => if i.form = .enc then 0x1 else 0x0

/-- Half a unit in the last place of a pattern, as a numerator over `f32Den` (40_fixed_point.md R147): the last place of
a normal pattern is `2^(exponent - 150)`, of a subnormal one 2^-149. -/
def f32HalfUlp (g : F32) : Nat := 2 ^ (max (f32Exponent g) 1 - 1)

/-- The answer of PARSE for a device message: the tag is the class and `rnode` the node field (30_encoding.md R103,
R106, 42_network.md R195). -/
def deviceAnswer (t : BitVec 2) (c : BitVec 6) (n : BitVec 3) (rec : Record) : Response :=
  ⟨0x0, .parsed (c.setWidth 8) (n.setWidth 8) t c n rec⟩

/-- The answer of PARSE for a network command (30_encoding.md R103, 42_network.md R195). -/
def networkAnswer (tag : Byte) (c : BitVec 6) (n : BitVec 3) (rec : Record) : Response :=
  ⟨0x0, .parsed tag 0 0 c n rec⟩

/-- The answer of ENCODE: the frame whose identifier is `t * 512 + c * 8 + n` (30_encoding.md R90, R104). -/
def frameAnswer (t c n : Nat) (rtr : Bool) (len : BitVec 4) (data : Payload) : Response :=
  ⟨0x1, .frame ⟨BitVec.ofNat 32 (t * 512 + c * 8 + n), false, rtr, len, data⟩⟩

/-- The answer of ENCODE for a device message, from its operands (43_zeus.md R221). -/
def deviceFrame (o : EncOps) (c : BitVec 6) (len : BitVec 4) (data : Payload) : Response :=
  frameAnswer (if o.hp then 1 else 2) c.toNat o.node.toNat false len data

/-- An error answer of op `op` (30_encoding.md R102). -/
def errorAnswer (op ekind : BitVec 4) (wrapped : Bool) (ea eb : U32) : Response := ⟨op, .err ekind wrapped ea eb⟩

/-- A frame shorter than a device message's length `need` is BUFFER_TOO_SMALL(len, need), wrapped, in the message's two
rows, high-priority and standard (43_zeus.md R220). -/
def deviceTooShort (s : State) (hp std : Instr) (x : FrameTail) (need : Nat) : Prop :=
  x.len.toNat < need →
    exec hp s = .next (s.answered (errorAnswer 0x0 1 true (x.len.setWidth 32) (BitVec.ofNat 32 need))) ∧
    exec std s = .next (s.answered (errorAnswer 0x0 1 true (x.len.setWidth 32) (BitVec.ofNat 32 need)))

/-- The two errors that every device encoder can raise: a node operand over 7, and then a capacity below the message's
length `need` (45_dispatch.md R313, R315). -/
def encodeRefusals (s : State) (i : Instr) (o : EncOps) (need : Nat) : Prop :=
  (7 < o.node.toNat → exec i s = .next (s.answered (errorAnswer 0x1 7 false 0 (o.node.setWidth 32)))) ∧
  (o.node.toNat ≤ 7 → o.cap.toNat < need →
    exec i s = .next (s.answered (errorAnswer 0x1 1 false (o.cap.setWidth 32) (BitVec.ofNat 32 need))))

/-- The frame that the instruction `i` builds parses, in the same state, to the answer `r` (45_dispatch.md R319). -/
def parsesBack (s : State) (i : Instr) (r : Response) : Prop :=
  ∃ f : Frame, exec i s = .next (s.answered ⟨0x1, .frame f⟩) ∧ exec (.parse f) s = .next (s.answered r)

end Sys2Proof.Machine
end

