-- ==== Sys2Proof/Certificates/Slice0/Obligations.lean ====
section
/-! DEFINITION. The statements for the provers. Each says what an instruction or the machine does by the numbered rules of
spec/; `State.answered` is what a Submit leaves (its whole frame is `SubmitChangesOnlyItsPort`). -/

open Sys2Proof Sys2Proof.Machine

/-! ### Fixed-point conversions (40_fixed_point.md) -/

/-- R140: HUM_TO_BIN answers, for every pattern, 0 for NaN, the ends for the infinities and outside (0, 100), and the
floor of value * 16382 / 100 between. -/
def Obligations.HumToBinAnswersTheFloor : Prop :=
  ∀ (f : F32) (s : State), s.portReady →
    ∃ u : U16, exec (.humToBin f) s = .next (s.answered ⟨0x4, .bin u⟩) ∧ u.toNat ≤ 16382 ∧
      (f32IsNaN f = true → u = 0) ∧
      (f32IsInf f = true → u = if f32Negative f then 0 else 16382) ∧
      (f32IsNaN f = false → f32IsInf f = false →
        (f32Num f ≤ 0 → u = 0) ∧
        (100 * (f32Den : Int) ≤ f32Num f → u = 16382) ∧
        (0 < f32Num f → f32Num f < 100 * (f32Den : Int) →
          (u.toNat : Int) * (100 * f32Den) ≤ f32Num f * 16382 ∧
          f32Num f * 16382 < ((u.toNat : Int) + 1) * (100 * f32Den)))

/-- R142: TEMP_TO_BIN, the same over -40 to 125 with the floor of (value + 40) * 16382 / 165. -/
def Obligations.TempToBinAnswersTheFloor : Prop :=
  ∀ (f : F32) (s : State), s.portReady →
    ∃ u : U16, exec (.tempToBin f) s = .next (s.answered ⟨0x6, .bin u⟩) ∧ u.toNat ≤ 16382 ∧
      (f32IsNaN f = true → u = 0) ∧
      (f32IsInf f = true → u = if f32Negative f then 0 else 16382) ∧
      (f32IsNaN f = false → f32IsInf f = false →
        (f32Num f ≤ -40 * (f32Den : Int) → u = 0) ∧
        (125 * (f32Den : Int) ≤ f32Num f → u = 16382) ∧
        (-40 * (f32Den : Int) < f32Num f → f32Num f < 125 * (f32Den : Int) →
          (u.toNat : Int) * (165 * f32Den) ≤ (f32Num f + 40 * f32Den) * 16382 ∧
          (f32Num f + 40 * f32Den) * 16382 < ((u.toNat : Int) + 1) * (165 * f32Den)))

/-- R144: TMP_TO_BIN answers the 12-bit pattern, bits 15:12 clear, of an integer `z`: 0 for NaN, the ends for the
infinities, and value * 16 truncated toward zero and saturated to -2048..2047. -/
def Obligations.TmpToBinTruncatesTowardZero : Prop :=
  ∀ (f : F32) (s : State), s.portReady →
    ∃ z : Int, -2048 ≤ z ∧ z ≤ 2047 ∧
      exec (.tmpToBin f) s = .next (s.answered ⟨0x8, .bin ((BitVec.ofInt 12 z).setWidth 16)⟩) ∧
      (f32IsNaN f = true → z = 0) ∧
      (f32IsInf f = true → z = if f32Negative f then -2048 else 2047) ∧
      (f32IsNaN f = false → f32IsInf f = false →
        (2048 * (f32Den : Int) ≤ f32Num f * 16 → z = 2047) ∧
        (f32Num f * 16 ≤ -2049 * (f32Den : Int) → z = -2048) ∧
        (0 ≤ f32Num f * 16 → f32Num f * 16 < 2048 * (f32Den : Int) →
          z * f32Den ≤ f32Num f * 16 ∧ f32Num f * 16 < (z + 1) * f32Den) ∧
        (f32Num f * 16 < 0 → -2049 * (f32Den : Int) < f32Num f * 16 →
          (z - 1) * f32Den < f32Num f * 16 ∧ f32Num f * 16 ≤ z * f32Den))

/-- R141, R143: BIN_TO_HUM and BIN_TO_TEMP give the sentinel 0x7FC00000 with `invalid = 1` above 16382, and otherwise the
exact quotient rounded once. -/
def Obligations.BinToHumAndTempRoundOnceOrAnswerTheSentinel : Prop :=
  ∀ (u : U16) (s : State), s.portReady →
    (16382 < u.toNat →
      exec (.binToHum u) s = .next (s.answered ⟨0x5, .float 0x7FC00000 true⟩) ∧
      exec (.binToTemp u) s = .next (s.answered ⟨0x7, .float 0x7FC00000 true⟩)) ∧
    (u.toNat ≤ 16382 →
      exec (.binToHum u) s = .next (s.answered ⟨0x5, .float (rne32 (u.toNat * 100) 16382) false⟩) ∧
      exec (.binToTemp u) s =
        .next (s.answered ⟨0x7, .float (rne32 ((u.toNat : Int) * 165 - 655280) 16382) false⟩))

/-- R145: BIN_TO_TMP reads only `u[11:0]`, is never the sentinel, and its value is exactly that signed number / 16. -/
def Obligations.BinToTmpIsExact : Prop :=
  ∀ (u : U16) (s : State), s.portReady →
    ∃ g : F32, exec (.binToTmp u) s = .next (s.answered ⟨0x9, .float g false⟩) ∧
      g = rne32 (u.extractLsb' 0 12).toInt 16 ∧ f32IsNaN g = false ∧ f32IsInf g = false ∧
      f32Num g * 16 = (u.extractLsb' 0 12).toInt * f32Den ∧
      ((u.extractLsb' 0 12).toInt = 0 → g = 0)

/-- R16 (the rounding decision D13): for every rational n/d of magnitude below 2^128 - 2^103 (past the largest finite value,
as far as it is the closest), `rne32` answers a finite pattern, no finite pattern is closer, and one as close with another
value means its own mantissa is even; zero answers pattern 0. From that bound on the model answers an infinity (log entry 6);
which of the two zero patterns a rational other than 0 rounds to is left out (log entry 13). -/
def Obligations.RneIsTheClosestPattern : Prop :=
  ∀ (n : Int) (d : Nat), 0 < d → n.natAbs < d * (2 ^ 128 - 2 ^ 103) →
    (n = 0 → rne32 n d = 0) ∧
    f32IsNaN (rne32 n d) = false ∧ f32IsInf (rne32 n d) = false ∧
    ∀ h : F32, f32IsNaN h = false → f32IsInf h = false →
      (n * f32Den - f32Num (rne32 n d) * d).natAbs ≤ (n * f32Den - f32Num h * d).natAbs ∧
      ((n * f32Den - f32Num (rne32 n d) * d).natAbs = (n * f32Den - f32Num h * d).natAbs →
        f32Num h ≠ f32Num (rne32 n d) → (rne32 n d).getLsbD 0 = false)

/-- R146: the two delta scales: the word of `f` is that of an integer `z`, 0 for NaN, the ends for the infinities, and
value * num / den truncated toward zero and saturated to the i16 range; back, one rounding of the signed word. -/
def Obligations.DeltaScalesTruncateTowardZero : Prop :=
  (∀ w : U16, binToDeltaH w = rne32 (w.toInt * 165) 16382 ∧ binToDeltaT w = rne32 w.toInt 16) ∧
  ∀ (f : F32) (element0 : Bool),
    let num : Int := if element0 then 16382 else 16
    let den : Int := if element0 then 165 * f32Den else f32Den
    ∃ z : Int, -32768 ≤ z ∧ z ≤ 32767 ∧
      (if element0 then deltaHToBin f else deltaTToBin f).toInt = z ∧
      (f32IsNaN f = true → z = 0) ∧
      (f32IsInf f = true → z = if f32Negative f then -32768 else 32767) ∧
      (f32IsNaN f = false → f32IsInf f = false →
        (32768 * den ≤ f32Num f * num → z = 32767) ∧
        (f32Num f * num ≤ -32769 * den → z = -32768) ∧
        (0 ≤ f32Num f * num → f32Num f * num < 32768 * den →
          z * den ≤ f32Num f * num ∧ f32Num f * num < (z + 1) * den) ∧
        (f32Num f * num < 0 → -32769 * den < f32Num f * num →
          (z - 1) * den < f32Num f * num ∧ f32Num f * num ≤ z * den))

/-- R147: the round trip of each scale stays within its bound: below by one step of the scale plus half an ulp of the
result, above by that half ulp, for the two HIH6030 scales; within 1/16 and of the same sign or zero for TMP1075. -/
def Obligations.RoundTripErrorStaysWithinTheBound : Prop :=
  ∀ f : F32, f32IsNaN f = false → f32IsInf f = false →
    (0 < f32Num f → f32Num f < 100 * (f32Den : Int) →
      let g := (binToHum (humToBin f)).1
      f32Num g - f32Num f ≤ f32HalfUlp g ∧
      (f32Num f - f32Num g - f32HalfUlp g) * 16382 ≤ 100 * (f32Den : Int)) ∧
    (-40 * (f32Den : Int) < f32Num f → f32Num f < 125 * (f32Den : Int) →
      let g := (binToTemp (tempToBin f)).1
      f32Num g - f32Num f ≤ f32HalfUlp g ∧
      (f32Num f - f32Num g - f32HalfUlp g) * 16382 ≤ 165 * (f32Den : Int)) ∧
    (-128 * (f32Den : Int) ≤ f32Num f → f32Num f * 16 ≤ 2047 * (f32Den : Int) →
      let g := binToTmp ((tmpToBin f).setWidth 16)
      (f32Num f - f32Num g).natAbs * 16 ≤ f32Den ∧
      (f32Num g = 0 ∨ ((0 < f32Num g ↔ 0 < f32Num f) ∧ (f32Num g < 0 ↔ f32Num f < 0))))

/-! ### Identifiers (41_identifier.md) -/

/-- R171: ID_ENCODE composes its three operands without masking them. -/
def Obligations.IdEncodeComposesWithoutMasking : Prop :=
  ∀ (t c n : Byte) (s : State), s.portReady →
    exec (.idEncode t c n) s = .next (s.answered
      ⟨0x2, .ident (BitVec.ofNat 32 ((t.toNat * 512) ||| (c.toNat * 8) ||| n.toNat))⟩)

/-- R173: ID_DECODE splits the low 11 bits of any identifier. -/
def Obligations.IdDecodeSplitsTheLowBits : Prop :=
  ∀ (id : U32) (s : State), s.portReady →
    exec (.idDecode id) s = .next (s.answered
      ⟨0x3, .split (BitVec.ofNat 2 (id.toNat / 512)) (BitVec.ofNat 6 (id.toNat / 8)) (BitVec.ofNat 3 id.toNat)⟩)

/-- R174: the identifier laws: the round trip both ways, and the fields one-to-one onto the values 0 to 0x7FF. -/
def Obligations.IdentifierLaws : Prop :=
  (∀ (t : BitVec 2) (c : BitVec 6) (n : BitVec 3),
    idDecode (idEncode (t.setWidth 32) (c.setWidth 32) (n.setWidth 32)) = (t, c, n) ∧
    (idEncode (t.setWidth 32) (c.setWidth 32) (n.setWidth 32)).toNat ≤ 0x7FF) ∧
  (∀ id : U32,
    idEncode ((idDecode id).1.setWidth 32) ((idDecode id).2.1.setWidth 32) ((idDecode id).2.2.setWidth 32)
      = (id.extractLsb' 0 11).setWidth 32) ∧
  (∀ v : U32, v.toNat < 2048 →
    ∃ (t : BitVec 2) (c : BitVec 6) (n : BitVec 3), idEncode (t.setWidth 32) (c.setWidth 32) (n.setWidth 32) = v ∧
      ∀ (t' : BitVec 2) (c' : BitVec 6) (n' : BitVec 3),
        idEncode (t'.setWidth 32) (c'.setWidth 32) (n'.setWidth 32) = v → (t', c', n') = (t, c, n))

/-- R172, R304: ID_DECODE and PARSE use no identifier bit above bit 10. -/
def Obligations.HighIdentifierBitsAreIgnored : Prop :=
  ∀ (id id' : U32) (s : State), id.extractLsb' 0 11 = id'.extractLsb' 0 11 →
    exec (.idDecode id) s = exec (.idDecode id') s ∧
    ∀ (ext rtr : Bool) (len : BitVec 4) (d : Payload),
      exec (.parse ⟨id, ext, rtr, len, d⟩) s = exec (.parse ⟨id', ext, rtr, len, d⟩) s

/-! ### Reserved op codes -/

/-- R96: each reserved op code answers BAD_REQUEST(0), echoing the op code, whatever its operands are. -/
def Obligations.ReservedOpCodesAnswerBadRequest : Prop :=
  ∀ (x : BitVec 188) (s : State), s.portReady →
    exec (.reservedOpA x) s = .next (s.answered (errorAnswer 0xA 8 false 0 0)) ∧
    exec (.reservedOpB x) s = .next (s.answered (errorAnswer 0xB 8 false 0 0)) ∧
    exec (.reservedOpC x) s = .next (s.answered (errorAnswer 0xC 8 false 0 0)) ∧
    exec (.reservedOpD x) s = .next (s.answered (errorAnswer 0xD 8 false 0 0)) ∧
    exec (.reservedOpE x) s = .next (s.answered (errorAnswer 0xE 8 false 0 0)) ∧
    exec (.reservedOpF x) s = .next (s.answered (errorAnswer 0xF 8 false 0 0))

/-! ### PARSE -/

/-- R130: PARSE of a frame completes, and is the row that the frame's key selects, whatever the configuration is (under a
DEV_CLASS_TABLE other than the default, a row of a class that the table gives otherwise is the model's choice, log entry 7). -/
def Obligations.ParseIsTheRowOfItsKey : Prop :=
  ∀ (f : Frame) (s : State), s.portReady →
    exec (.parse f) s
      = exec (selectKey f.ext f.rtr (f.id.extractLsb' 9 2) (f.id.extractLsb' 3 6) (f.id.extractLsb' 0 3)
          ⟨f.id.extractLsb' 11 21, f.len, f.data⟩) s ∧
    ∃ b : Body, exec (.parse f) s = .next (s.answered ⟨0x0, b⟩)

/-- R302, R303, R305: an overlong frame, then an extended one, then an RTR frame of type 0 or 3 is rejected. -/
def Obligations.RejectedFrames : Prop :=
  ∀ (f : Frame) (rtr : Bool) (t : BitVec 2) (c : BitVec 6) (n : BitVec 3) (x : FrameTail) (s : State), s.portReady →
    (8 < f.len.toNat → exec (.parse f) s = .next (s.answered (errorAnswer 0x0 8 false 2 0))) ∧
    (f.len.toNat ≤ 8 → f.ext = true → exec (.parse f) s = .next (s.answered (errorAnswer 0x0 4 false 0 0))) ∧
    (8 < x.len.toNat →
      exec (.parseExtendedReject rtr t c n x) s = .next (s.answered (errorAnswer 0x0 8 false 2 0))) ∧
    (x.len.toNat ≤ 8 →
      exec (.parseExtendedReject rtr t c n x) s = .next (s.answered (errorAnswer 0x0 4 false 0 0)) ∧
      exec (.parseRtrNetworkReject c n x) s = .next (s.answered (errorAnswer 0x0 4 false 2 0)) ∧
      exec (.parseRtrHeartbeatReject c n x) s = .next (s.answered (errorAnswer 0x0 4 false 2 0)))

/-- R190, R183: the sub-commands 1, 4, 5 and 6 answer UNKNOWN_NETWORK_COMMAND(n), the class and payload unexamined, after the
length check and the extended check. -/
def Obligations.UnknownNetworkCommands : Prop :=
  ∀ (c : BitVec 6) (n : BitVec 3) (x : FrameTail) (s : State), s.portReady →
    (netRom n = none ↔ n = 1 ∨ n = 4 ∨ n = 5 ∨ n = 6) ∧
    (x.len.toNat ≤ 8 → netRom n = none →
      exec (selectKey false false 0 c n x) s = .next (s.answered (errorAnswer 0x0 6 false (n.setWidth 32) 0))) ∧
    (x.len.toNat ≤ 8 →
      exec (.parseNetSynchronisationReserved c x) s = .next (s.answered (errorAnswer 0x0 6 false 1 0)) ∧
      exec (.parseNetNetcmd4Unknown c x) s = .next (s.answered (errorAnswer 0x0 6 false 4 0)) ∧
      exec (.parseNetNetcmd5Unknown c x) s = .next (s.answered (errorAnswer 0x0 6 false 5 0)) ∧
      exec (.parseNetNetcmd6Unknown c x) s = .next (s.answered (errorAnswer 0x0 6 false 6 0))) ∧
    (x.len.toNat ≤ 8 → exec (selectKey true false 0 c n x) s = .next (s.answered (errorAnswer 0x0 4 false 0 0))) ∧
    (8 < x.len.toNat → netRom n = none →
      exec (selectKey false false 0 c n x) s = .next (s.answered (errorAnswer 0x0 8 false 2 0)))

/-- R193: a poll decodes to MESSAGE_REQUEST; a payload is refused first, then an unregistered class; no error is wrapped. -/
def Obligations.PollsDecodeToMessageRequest : Prop :=
  ∀ (c : BitVec 6) (n : BitVec 3) (x : FrameTail) (s : State), s.portReady → x.len.toNat ≤ 8 →
    (x.len.toNat = 0 → (s.cfg.devRom c).isSome = true →
      exec (.parseRtrPollHp c n x) s
        = .next (s.answered ⟨0x0, .parsed 0x80 (n.setWidth 8) 1 c n (.messageRequest ⟨c, n⟩)⟩) ∧
      exec (.parseRtrPollStd c n x) s
        = .next (s.answered ⟨0x0, .parsed 0x80 (n.setWidth 8) 2 c n (.messageRequest ⟨c, n⟩)⟩)) ∧
    (0 < x.len.toNat →
      exec (.parseRtrPollHp c n x) s = .next (s.answered (errorAnswer 0x0 4 false 1 0)) ∧
      exec (.parseRtrPollStd c n x) s = .next (s.answered (errorAnswer 0x0 4 false 1 0))) ∧
    (x.len.toNat = 0 → (s.cfg.devRom c).isNone = true →
      exec (.parseRtrPollHp c n x) s = .next (s.answered (errorAnswer 0x0 5 false (c.setWidth 32) 0)) ∧
      exec (.parseRtrPollStd c n x) s = .next (s.answered (errorAnswer 0x0 5 false (c.setWidth 32) 0)))

/-- R181, R184, R186: the fixed-length network commands decode their bytes, check nothing but the length, and wrap no
error. -/
def Obligations.NetworkCommandsDecode : Prop :=
  ∀ (c : BitVec 6) (x : FrameTail) (s : State), s.portReady → x.len.toNat ≤ 8 →
    (1 ≤ x.len.toNat → exec (.parseNetResetRequest c x) s
      = .next (s.answered (networkAnswer 0x40 c 0 (.resetRequest ⟨c, x.data.byte 0⟩)))) ∧
    (x.len.toNat < 1 → exec (.parseNetResetRequest c x) s = .next (s.answered (errorAnswer 0x0 1 false 0 1))) ∧
    (2 ≤ x.len.toNat → exec (.parseNetIdChangeRequest c x) s
      = .next (s.answered (networkAnswer 0x42 c 2 (.idChangeRequest ⟨c, x.data.byte 0, x.data.byte 1⟩)))) ∧
    (x.len.toNat < 2 → exec (.parseNetIdChangeRequest c x) s
      = .next (s.answered (errorAnswer 0x0 1 false (x.len.setWidth 32) 2))) ∧
    (4 ≤ x.len.toNat → exec (.parseNetErrorReport c x) s
      = .next (s.answered (networkAnswer 0x43 c 3
          (.errorReport ⟨x.data.byte 0, x.data.byte 1, x.data.byte 3 ++ x.data.byte 2⟩)))) ∧
    (x.len.toNat < 4 → exec (.parseNetErrorReport c x) s
      = .next (s.answered (errorAnswer 0x0 1 false (x.len.setWidth 32) 4)))

/-- R188: a heartbeat request is a ping when empty, too short with one byte, and else has the period of its first two
bytes. -/
def Obligations.HeartbeatRequestsDecode : Prop :=
  ∀ (c : BitVec 6) (x : FrameTail) (s : State), s.portReady → x.len.toNat ≤ 8 →
    (x.len.toNat = 0 → exec (.parseNetHeartbeatRequest c x) s
      = .next (s.answered (networkAnswer 0x47 c 7 (.heartbeatRequest ⟨c, 0⟩)))) ∧
    (x.len.toNat = 1 → exec (.parseNetHeartbeatRequest c x) s = .next (s.answered (errorAnswer 0x0 1 false 1 2))) ∧
    (2 ≤ x.len.toNat → exec (.parseNetHeartbeatRequest c x) s
      = .next (s.answered (networkAnswer 0x47 c 7
          (.heartbeatRequest ⟨c, (x.data.byte 1 ++ x.data.byte 0).setWidth 32⟩))))

/-- R191: the length matrix of a heartbeat announcement; every class is accepted and `rnode` is the node field. -/
def Obligations.HeartbeatsDecodeByLength : Prop :=
  ∀ (c : BitVec 6) (n : BitVec 3) (x : FrameTail) (s : State), s.portReady → x.len.toNat ≤ 8 →
    let version := fun (a b p w : Byte) =>
      Host.Outcome.next (s.answered ⟨0x0, .parsed 0x48 (n.setWidth 8) 3 c n (.heartbeat ⟨c, n, a, b, p, w⟩)⟩)
    (x.len.toNat = 0 → exec (.parseHeartbeat c n x) s = version 0 0 0 0) ∧
    (x.len.toNat = 1 → exec (.parseHeartbeat c n x) s = .next (s.answered (errorAnswer 0x0 1 false 1 2))) ∧
    (x.len.toNat = 2 → exec (.parseHeartbeat c n x) s = version (x.data.byte 0) (x.data.byte 1) 0 0) ∧
    (x.len.toNat = 3 → exec (.parseHeartbeat c n x) s = version (x.data.byte 0) (x.data.byte 1) (x.data.byte 2) 0) ∧
    (4 ≤ x.len.toNat →
      exec (.parseHeartbeat c n x) s = version (x.data.byte 0) (x.data.byte 1) (x.data.byte 2) (x.data.byte 3))

/-- R272, R274: the Notus messages decode, high-priority and standard, wherever the table registers them; a shorter frame
is BUFFER_TOO_SMALL, wrapped. -/
def Obligations.NotusMessagesDecode : Prop :=
  ∀ (n : BitVec 3) (x : FrameTail) (s : State), s.portReady → x.len.toNat ≤ 8 →
    (s.cfg.devRom 0x2C = some .notusSetPoint → 1 ≤ x.len.toNat →
      exec (.parseNotusSetPointHp n x) s
        = .next (s.answered (deviceAnswer 1 0x2C n (.notusSetPoint ⟨x.data.byte 0⟩))) ∧
      exec (.parseNotusSetPointStd n x) s
        = .next (s.answered (deviceAnswer 2 0x2C n (.notusSetPoint ⟨x.data.byte 0⟩)))) ∧
    (s.cfg.devRom 0x2D = some .notusConfig → 4 ≤ x.len.toNat →
      let r := Record.notusConfig ⟨x.data.byte 1 ++ x.data.byte 0, x.data.byte 2, x.data.byte 3⟩
      exec (.parseNotusConfigHp n x) s = .next (s.answered (deviceAnswer 1 0x2D n r)) ∧
      exec (.parseNotusConfigStd n x) s = .next (s.answered (deviceAnswer 2 0x2D n r))) ∧
    (s.cfg.devRom 0x2C = some .notusSetPoint →
      deviceTooShort s (.parseNotusSetPointHp n x) (.parseNotusSetPointStd n x) x 1) ∧
    (s.cfg.devRom 0x2D = some .notusConfig → deviceTooShort s (.parseNotusConfigHp n x) (.parseNotusConfigStd n x) x 4)

/-- R266, R268, R270: the Celaeno messages decode; the water level takes the highest flag of bits 2, 1, 0 and ignores
the others; a shorter frame is BUFFER_TOO_SMALL, wrapped. -/
def Obligations.CelaenoMessagesDecode : Prop :=
  ∀ (n : BitVec 3) (x : FrameTail) (s : State), s.portReady → x.len.toNat ≤ 8 →
    (s.cfg.devRom 0x30 = some .celaenoSetPoint → 1 ≤ x.len.toNat →
      exec (.parseCelaenoSetPointHp n x) s
        = .next (s.answered (deviceAnswer 1 0x30 n (.celaenoSetPoint ⟨x.data.byte 0⟩))) ∧
      exec (.parseCelaenoSetPointStd n x) s
        = .next (s.answered (deviceAnswer 2 0x30 n (.celaenoSetPoint ⟨x.data.byte 0⟩)))) ∧
    (s.cfg.devRom 0x31 = some .celaenoStatus → 3 ≤ x.len.toNat →
      ∃ w : BitVec 2,
        (w = 3 ↔ (x.data.byte 0).getLsbD 2 = true) ∧
        (w = 2 ↔ (x.data.byte 0).getLsbD 2 = false ∧ (x.data.byte 0).getLsbD 1 = true) ∧
        (w = 1 ↔ (x.data.byte 0).getLsbD 2 = false ∧ (x.data.byte 0).getLsbD 1 = false ∧
          (x.data.byte 0).getLsbD 0 = true) ∧
        let r := Record.celaenoStatus ⟨w, fanDecode (x.data.byte 2 ++ x.data.byte 1)⟩
        exec (.parseCelaenoStatusHp n x) s = .next (s.answered (deviceAnswer 1 0x31 n r)) ∧
        exec (.parseCelaenoStatusStd n x) s = .next (s.answered (deviceAnswer 2 0x31 n r))) ∧
    (s.cfg.devRom 0x32 = some .celaenoConfig → 8 ≤ x.len.toNat →
      let r := Record.celaenoConfig ⟨(x.data.byte 1 ++ x.data.byte 0).setWidth 32,
        (x.data.byte 3 ++ x.data.byte 2).setWidth 32, (x.data.byte 5 ++ x.data.byte 4).setWidth 32,
        (x.data.byte 7 ++ x.data.byte 6).setWidth 32⟩
      exec (.parseCelaenoConfigHp n x) s = .next (s.answered (deviceAnswer 1 0x32 n r)) ∧
      exec (.parseCelaenoConfigStd n x) s = .next (s.answered (deviceAnswer 2 0x32 n r))) ∧
    (s.cfg.devRom 0x30 = some .celaenoSetPoint →
      deviceTooShort s (.parseCelaenoSetPointHp n x) (.parseCelaenoSetPointStd n x) x 1) ∧
    (s.cfg.devRom 0x31 = some .celaenoStatus →
      deviceTooShort s (.parseCelaenoStatusHp n x) (.parseCelaenoStatusStd n x) x 3) ∧
    (s.cfg.devRom 0x32 = some .celaenoConfig →
      deviceTooShort s (.parseCelaenoConfigHp n x) (.parseCelaenoConfigStd n x) x 8)

/-- R260, R262, R264: the Helios messages decode; the camera delay is read only where TRIGGER_MODE_LEN is 6; a shorter
frame is BUFFER_TOO_SMALL, wrapped. -/
def Obligations.HeliosMessagesDecode : Prop :=
  ∀ (n : BitVec 3) (x : FrameTail) (s : State), s.portReady → x.len.toNat ≤ 8 →
    (s.cfg.devRom 0x34 = some .heliosSetPoint → 2 ≤ x.len.toNat →
      exec (.parseHeliosSetPointHp n x) s
        = .next (s.answered (deviceAnswer 1 0x34 n (.heliosSetPoint ⟨x.data.byte 0, x.data.byte 1⟩))) ∧
      exec (.parseHeliosSetPointStd n x) s
        = .next (s.answered (deviceAnswer 2 0x34 n (.heliosSetPoint ⟨x.data.byte 0, x.data.byte 1⟩)))) ∧
    (s.cfg.devRom 0x35 = some .heliosPulseMode → 2 ≤ x.len.toNat →
      exec (.parseHeliosPulseModeHp n x) s
        = .next (s.answered (deviceAnswer 1 0x35 n (.heliosPulseMode ⟨x.data.byte 1 ++ x.data.byte 0⟩))) ∧
      exec (.parseHeliosPulseModeStd n x) s
        = .next (s.answered (deviceAnswer 2 0x35 n (.heliosPulseMode ⟨x.data.byte 1 ++ x.data.byte 0⟩)))) ∧
    (s.cfg.devRom 0x36 = some .heliosTriggerMode → s.cfg.triggerModeLen = .six → 6 ≤ x.len.toNat →
      let r := Record.heliosTriggerMode ⟨x.data.byte 1 ++ x.data.byte 0, x.data.byte 3 ++ x.data.byte 2,
        x.data.byte 5 ++ x.data.byte 4⟩
      exec (.parseHeliosTriggerModeHp n x) s = .next (s.answered (deviceAnswer 1 0x36 n r)) ∧
      exec (.parseHeliosTriggerModeStd n x) s = .next (s.answered (deviceAnswer 2 0x36 n r))) ∧
    (s.cfg.devRom 0x36 = some .heliosTriggerMode → s.cfg.triggerModeLen = .four → 4 ≤ x.len.toNat →
      let r := Record.heliosTriggerMode ⟨x.data.byte 1 ++ x.data.byte 0, x.data.byte 3 ++ x.data.byte 2, 0⟩
      exec (.parseHeliosTriggerModeHp n x) s = .next (s.answered (deviceAnswer 1 0x36 n r)) ∧
      exec (.parseHeliosTriggerModeStd n x) s = .next (s.answered (deviceAnswer 2 0x36 n r))) ∧
    (s.cfg.devRom 0x34 = some .heliosSetPoint →
      deviceTooShort s (.parseHeliosSetPointHp n x) (.parseHeliosSetPointStd n x) x 2) ∧
    (s.cfg.devRom 0x35 = some .heliosPulseMode →
      deviceTooShort s (.parseHeliosPulseModeHp n x) (.parseHeliosPulseModeStd n x) x 2) ∧
    (s.cfg.devRom 0x36 = some .heliosTriggerMode →
      deviceTooShort s (.parseHeliosTriggerModeHp n x) (.parseHeliosTriggerModeStd n x) x s.cfg.triggerModeLen.bytes)

/-- R229, R231, R233: the Zeus messages without a fixed-point field decode; a shorter frame is BUFFER_TOO_SMALL, wrapped. -/
def Obligations.ZeusIntegerMessagesDecode : Prop :=
  ∀ (n : BitVec 3) (x : FrameTail) (s : State), s.portReady → x.len.toNat ≤ 8 →
    (s.cfg.devRom 0x3B = some .zeusConfig → 8 ≤ x.len.toNat →
      let r := Record.zeusConfig
        ⟨⟨x.data.byte 0, x.data.byte 1, x.data.byte 2, x.data.byte 3 % 16, x.data.byte 3 / 16⟩,
         ⟨x.data.byte 4, x.data.byte 5, x.data.byte 6, x.data.byte 7 % 16, x.data.byte 7 / 16⟩⟩
      exec (.parseZeusConfigHp n x) s = .next (s.answered (deviceAnswer 1 0x3B n r)) ∧
      exec (.parseZeusConfigStd n x) s = .next (s.answered (deviceAnswer 2 0x3B n r))) ∧
    (s.cfg.devRom 0x3C = some .zeusStatus → 7 ≤ x.len.toNat →
      let r := Record.zeusStatus ⟨x.data.byte 0, fanDecode (x.data.byte 2 ++ x.data.byte 1),
        fanDecode (x.data.byte 4 ++ x.data.byte 3), fanDecode (x.data.byte 6 ++ x.data.byte 5)⟩
      exec (.parseZeusStatusHp n x) s = .next (s.answered (deviceAnswer 1 0x3C n r)) ∧
      exec (.parseZeusStatusStd n x) s = .next (s.answered (deviceAnswer 2 0x3C n r))) ∧
    (s.cfg.devRom 0x3D = some .zeusControlPoint → 4 ≤ x.len.toNat →
      let r := Record.zeusControlPoint ⟨x.data.byte 1 ++ x.data.byte 0, x.data.byte 3 ++ x.data.byte 2⟩
      exec (.parseZeusControlPointHp n x) s = .next (s.answered (deviceAnswer 1 0x3D n r)) ∧
      exec (.parseZeusControlPointStd n x) s = .next (s.answered (deviceAnswer 2 0x3D n r))) ∧
    (s.cfg.devRom 0x3B = some .zeusConfig → deviceTooShort s (.parseZeusConfigHp n x) (.parseZeusConfigStd n x) x 8) ∧
    (s.cfg.devRom 0x3C = some .zeusStatus → deviceTooShort s (.parseZeusStatusHp n x) (.parseZeusStatusStd n x) x 7) ∧
    (s.cfg.devRom 0x3D = some .zeusControlPoint →
      deviceTooShort s (.parseZeusControlPointHp n x) (.parseZeusControlPointStd n x) x 4)

/-- R224: Zeus.SetPoint decodes two words and a byte; a word above 16382 is INVALID_SENSOR_VALUE of its field, wrapped, the
humidity field first. -/
def Obligations.ZeusSetPointDecodes : Prop :=
  ∀ (n : BitVec 3) (x : FrameTail) (s : State), s.portReady → x.len.toNat ≤ 8 →
    s.cfg.devRom 0x38 = some .zeusSetPoint →
    let h : U16 := x.data.byte 1 ++ x.data.byte 0
    let t : U16 := x.data.byte 3 ++ x.data.byte 2
    deviceTooShort s (.parseZeusSetPointHp n x) (.parseZeusSetPointStd n x) x 5 ∧
    (5 ≤ x.len.toNat → h.toNat ≤ 16382 → t.toNat ≤ 16382 →
      let r := Record.zeusSetPoint ⟨rne32 (h.toNat * 100) 16382, rne32 ((t.toNat : Int) * 165 - 655280) 16382,
        x.data.byte 4⟩
      exec (.parseZeusSetPointHp n x) s = .next (s.answered (deviceAnswer 1 0x38 n r)) ∧
      exec (.parseZeusSetPointStd n x) s = .next (s.answered (deviceAnswer 2 0x38 n r))) ∧
    (5 ≤ x.len.toNat → 16382 < h.toNat →
      exec (.parseZeusSetPointHp n x) s = .next (s.answered (errorAnswer 0x0 2 true 0 0)) ∧
      exec (.parseZeusSetPointStd n x) s = .next (s.answered (errorAnswer 0x0 2 true 0 0))) ∧
    (5 ≤ x.len.toNat → h.toNat ≤ 16382 → 16382 < t.toNat →
      exec (.parseZeusSetPointHp n x) s = .next (s.answered (errorAnswer 0x0 2 true 1 0)) ∧
      exec (.parseZeusSetPointStd n x) s = .next (s.answered (errorAnswer 0x0 2 true 1 0)))

/-- R226: Zeus.Report decodes the five fields packed into its 64-bit word from bit 0 up; only the all-ones pattern of a
14-bit field is invalid. -/
def Obligations.ZeusReportDecodes : Prop :=
  ∀ (n : BitVec 3) (x : FrameTail) (s : State) (h t : BitVec 14) (a0 a1 a2 : BitVec 12),
    s.portReady → x.len.toNat ≤ 8 → s.cfg.devRom 0x39 = some .zeusReport →
    x.data.byte 7 ++ x.data.byte 6 ++ x.data.byte 5 ++ x.data.byte 4 ++ x.data.byte 3 ++ x.data.byte 2
      ++ x.data.byte 1 ++ x.data.byte 0 = a2 ++ a1 ++ a0 ++ t ++ h →
    deviceTooShort s (.parseZeusReportHp n x) (.parseZeusReportStd n x) x 8 ∧
    (x.len.toNat = 8 → h.toNat ≠ 16383 → t.toNat ≠ 16383 →
      let r := Record.zeusReport ⟨rne32 (h.toNat * 100) 16382, rne32 ((t.toNat : Int) * 165 - 655280) 16382,
        rne32 a0.toInt 16, rne32 a1.toInt 16, rne32 a2.toInt 16⟩
      exec (.parseZeusReportHp n x) s = .next (s.answered (deviceAnswer 1 0x39 n r)) ∧
      exec (.parseZeusReportStd n x) s = .next (s.answered (deviceAnswer 2 0x39 n r))) ∧
    (x.len.toNat = 8 → h.toNat = 16383 →
      exec (.parseZeusReportHp n x) s = .next (s.answered (errorAnswer 0x0 2 true 0 0)) ∧
      exec (.parseZeusReportStd n x) s = .next (s.answered (errorAnswer 0x0 2 true 0 0))) ∧
    (x.len.toNat = 8 → h.toNat ≠ 16383 → t.toNat = 16383 →
      exec (.parseZeusReportHp n x) s = .next (s.answered (errorAnswer 0x0 2 true 1 0)) ∧
      exec (.parseZeusReportStd n x) s = .next (s.answered (errorAnswer 0x0 2 true 1 0)))

/-- R235: Zeus.DeltaTemperature decodes four signed words, element 0 at 165/16382 and the others at 1/16 degree a step. -/
def Obligations.ZeusDeltaTemperatureDecodes : Prop :=
  ∀ (n : BitVec 3) (x : FrameTail) (s : State), s.portReady → x.len.toNat ≤ 8 →
    s.cfg.devRom 0x3E = some .zeusDeltaTemperature →
    let w := fun k : Nat => (x.data.byte (2 * k + 1) ++ x.data.byte (2 * k)).toInt
    let r := Record.zeusDeltaTemperature ⟨rne32 (w 0 * 165) 16382, rne32 (w 1) 16, rne32 (w 2) 16, rne32 (w 3) 16⟩
    deviceTooShort s (.parseZeusDeltaTemperatureHp n x) (.parseZeusDeltaTemperatureStd n x) x 8 ∧
    (x.len.toNat = 8 →
      exec (.parseZeusDeltaTemperatureHp n x) s = .next (s.answered (deviceAnswer 1 0x3E n r)) ∧
      exec (.parseZeusDeltaTemperatureStd n x) s = .next (s.answered (deviceAnswer 2 0x3E n r)))

/-- R308: a device frame of an unregistered class answers UNKNOWN_CLASS(class), not wrapped, in the fallback rows and in
the row of a class whose message the table has taken away. -/
def Obligations.UnregisteredClassesAreUnknown : Prop :=
  ∀ (c : BitVec 6) (n : BitVec 3) (x : FrameTail) (s : State), s.portReady → x.len.toNat ≤ 8 →
    s.cfg.devRom c = none →
    exec (.parseUnknownClassHp c n x) s = .next (s.answered (errorAnswer 0x0 5 false (c.setWidth 32) 0)) ∧
    exec (.parseUnknownClassStd c n x) s = .next (s.answered (errorAnswer 0x0 5 false (c.setWidth 32) 0)) ∧
    exec (selectDeviceHp c n x) s = .next (s.answered (errorAnswer 0x0 5 false (c.setWidth 32) 0)) ∧
    exec (selectDeviceStd c n x) s = .next (s.answered (errorAnswer 0x0 5 false (c.setWidth 32) 0))

/-- R220: whatever message a class has, a frame shorter than its length is BUFFER_TOO_SMALL(len, L), wrapped. -/
def Obligations.ShortDeviceFramesAreRefused : Prop :=
  ∀ (k : DevKind) (f : Frame) (s : State), s.portReady → f.ext = false → f.rtr = false →
    f.id.extractLsb' 9 2 = 1 ∨ f.id.extractLsb' 9 2 = 2 →
    s.cfg.devRom (f.id.extractLsb' 3 6) = some k →
    f.len.toNat < k.payloadLen s.cfg.triggerModeLen →
    exec (.parse f) s = .next (s.answered (errorAnswer 0x0 1 true (f.len.setWidth 32)
      (BitVec.ofNat 32 (k.payloadLen s.cfg.triggerModeLen))))

/-- R321: a type-1 frame parses exactly like the type-2 frame of the same class, node and payload, but for `ftype`. -/
def Obligations.HighPriorityFramesParseAlike : Prop :=
  ∀ (c : BitVec 6) (n : BitVec 3) (rtr : Bool) (len : BitVec 4) (d : Payload) (s : State), s.portReady →
    let frame := fun t : Nat => Frame.mk (BitVec.ofNat 32 (t * 512 + c.toNat * 8 + n.toNat)) false rtr len d
    (∃ (k : BitVec 4) (w : Bool) (ea eb : U32),
      exec (.parse (frame 1)) s = .next (s.answered (errorAnswer 0x0 k w ea eb)) ∧
      exec (.parse (frame 2)) s = .next (s.answered (errorAnswer 0x0 k w ea eb))) ∨
    (∃ (tag : Byte) (r : Record),
      exec (.parse (frame 1)) s = .next (s.answered ⟨0x0, .parsed tag (n.setWidth 8) 1 c n r⟩) ∧
      exec (.parse (frame 2)) s = .next (s.answered ⟨0x0, .parsed tag (n.setWidth 8) 2 c n r⟩))

/-- R309: PARSE never reads a data byte at or past `len`. -/
def Obligations.ParseIgnoresBytesPastTheLength : Prop :=
  ∀ (id : U32) (ext rtr : Bool) (len : BitVec 4) (d d' : Payload) (s : State),
    (∀ k : Nat, k < len.toNat → d.byte k = d'.byte k) →
    exec (.parse ⟨id, ext, rtr, len, d⟩) s = exec (.parse ⟨id, ext, rtr, len, d'⟩) s

/-! ### ENCODE -/

/-- R310, R311: `cap > 8` is refused before anything else, then a tag that is not encodable, in ENCODE and in the
fallback row. -/
def Obligations.MalformedEncodesAreRefused : Prop :=
  ∀ (o : EncOps) (tag : Byte) (raw : RawRecord) (s : State), s.portReady →
    (8 < o.cap.toNat →
      exec (.encode o tag raw) s = .next (s.answered (errorAnswer 0x1 8 false 3 0)) ∧
      exec (.encodeNotEncodable o tag raw) s = .next (s.answered (errorAnswer 0x1 8 false 3 0))) ∧
    (o.cap.toNat ≤ 8 → tag ≠ 0x40 → tag ≠ 0x42 → tag ≠ 0x47 → tag ≠ 0x80 →
      (tag.toNat < 64 → s.cfg.devRom (tag.setWidth 6) = none) →
      exec (.encode o tag raw) s = .next (s.answered (errorAnswer 0x1 8 false 1 0)) ∧
      exec (.encodeNotEncodable o tag raw) s = .next (s.answered (errorAnswer 0x1 8 false 1 0)))

/-- R130, R310: under the default table ENCODE completes, and is the row that its tag selects, its record read from the
request's bits, whose layout is the model's choice (log entry 4). -/
def Obligations.EncodeIsTheRowOfItsTag : Prop :=
  ∀ (o : EncOps) (tag : Byte) (raw : RawRecord) (s : State), s.portReady → s.cfg.devTable = Config.default.devTable →
    exec (.encode o tag raw) s = exec (readEncForm.read (putEnc tag o raw.toNat)).1 s ∧
    ∃ b : Body, exec (.encode o tag raw) s = .next (s.answered ⟨0x1, b⟩)

/-- R273, R275: the Notus messages encode, as rows and as ENCODE requests of their tag, after the node and length checks. The
two clauses on ENCODE give the record as bits in the layout that the model chose (log entry 4). -/
def Obligations.NotusMessagesEncode : Prop :=
  ∀ (o : EncOps) (s : State), s.portReady → o.cap.toNat ≤ 8 →
    (∀ r : NotusSetPoint, s.cfg.devRom 0x2C = some .notusSetPoint → o.node.toNat ≤ 7 → 1 ≤ o.cap.toNat →
      let a := deviceFrame o 0x2C 1 #v[r.power, 0, 0, 0, 0, 0, 0, 0]
      exec (.encodeNotusSetPoint o r) s = .next (s.answered a) ∧
      exec (.encode o 0x2C (rawRecord (putNotusSetPoint r 0))) s = .next (s.answered a)) ∧
    (∀ r : NotusConfig, s.cfg.devRom 0x2D = some .notusConfig → o.node.toNat ≤ 7 → 4 ≤ o.cap.toNat →
      let a := deviceFrame o 0x2D 4
        #v[r.rampDownMs.extractLsb' 0 8, r.rampDownMs.extractLsb' 8 8, r.minFan, r.maxHeat, 0, 0, 0, 0]
      exec (.encodeNotusConfig o r) s = .next (s.answered a) ∧
      exec (.encode o 0x2D (rawRecord (putNotusConfig r 0))) s = .next (s.answered a)) ∧
    (∀ r : NotusSetPoint, s.cfg.devRom 0x2C = some .notusSetPoint → encodeRefusals s (.encodeNotusSetPoint o r) o 1) ∧
    (∀ r : NotusConfig, s.cfg.devRom 0x2D = some .notusConfig → encodeRefusals s (.encodeNotusConfig o r) o 4)

/-- R267, R269 and R271 (its range check is `RangeOverflowNamesTheFirstField`): the Celaeno messages encode, after the fan
status, node and length checks in that order. -/
def Obligations.CelaenoMessagesEncode : Prop :=
  ∀ (o : EncOps) (s : State), s.portReady → o.cap.toNat ≤ 8 →
    (∀ r : CelaenoSetPoint, s.cfg.devRom 0x30 = some .celaenoSetPoint → o.node.toNat ≤ 7 → 1 ≤ o.cap.toNat →
      exec (.encodeCelaenoSetPoint o r) s
        = .next (s.answered (deviceFrame o 0x30 1 #v[r.power, 0, 0, 0, 0, 0, 0, 0]))) ∧
    (∀ r : CelaenoStatus, s.cfg.devRom 0x31 = some .celaenoStatus → o.node.toNat ≤ 7 → 3 ≤ o.cap.toNat →
      r.fan.fstatus ≠ 3 →
      exec (.encodeCelaenoStatus o r) s
        = .next (s.answered (deviceFrame o 0x31 3
            #v[if r.waterLevel = 0 then 0 else 1 <<< (r.waterLevel.toNat - 1),
               (fanEncode r.fan).extractLsb' 0 8, (fanEncode r.fan).extractLsb' 8 8, 0, 0, 0, 0, 0]))) ∧
    (∀ a b c d : U16, s.cfg.devRom 0x32 = some .celaenoConfig → o.node.toNat ≤ 7 → 8 ≤ o.cap.toNat →
      exec (.encodeCelaenoConfig o ⟨a.setWidth 32, b.setWidth 32, c.setWidth 32, d.setWidth 32⟩) s
        = .next (s.answered (deviceFrame o 0x32 8
            #v[a.extractLsb' 0 8, a.extractLsb' 8 8, b.extractLsb' 0 8, b.extractLsb' 8 8,
               c.extractLsb' 0 8, c.extractLsb' 8 8, d.extractLsb' 0 8, d.extractLsb' 8 8]))) ∧
    (∀ r : CelaenoSetPoint, s.cfg.devRom 0x30 = some .celaenoSetPoint →
      encodeRefusals s (.encodeCelaenoSetPoint o r) o 1) ∧
    (∀ r : CelaenoStatus, s.cfg.devRom 0x31 = some .celaenoStatus → r.fan.fstatus ≠ 3 →
      encodeRefusals s (.encodeCelaenoStatus o r) o 3) ∧
    (∀ r : CelaenoStatus, s.cfg.devRom 0x31 = some .celaenoStatus → r.fan.fstatus = 3 →
      exec (.encodeCelaenoStatus o r) s = .next (s.answered (errorAnswer 0x1 8 false 4 1))) ∧
    (∀ r : CelaenoConfig, s.cfg.devRom 0x32 = some .celaenoConfig → encodeRefusals s (.encodeCelaenoConfig o r) o 8)

/-- R261, R263, R265: the Helios messages encode, after the node and length checks; the camera delay is written only where
TRIGGER_MODE_LEN is 6. -/
def Obligations.HeliosMessagesEncode : Prop :=
  ∀ (o : EncOps) (s : State), s.portReady → o.cap.toNat ≤ 8 →
    (∀ r : HeliosSetPoint, s.cfg.devRom 0x34 = some .heliosSetPoint → o.node.toNat ≤ 7 → 2 ≤ o.cap.toNat →
      exec (.encodeHeliosSetPoint o r) s
        = .next (s.answered (deviceFrame o 0x34 2 #v[r.visible, r.uv, 0, 0, 0, 0, 0, 0]))) ∧
    (∀ r : HeliosPulseMode, s.cfg.devRom 0x35 = some .heliosPulseMode → o.node.toNat ≤ 7 → 2 ≤ o.cap.toNat →
      exec (.encodeHeliosPulseMode o r) s
        = .next (s.answered (deviceFrame o 0x35 2
            #v[r.periodMs.extractLsb' 0 8, r.periodMs.extractLsb' 8 8, 0, 0, 0, 0, 0, 0]))) ∧
    (∀ r : HeliosTriggerMode, s.cfg.devRom 0x36 = some .heliosTriggerMode → o.node.toNat ≤ 7 →
      s.cfg.triggerModeLen = .six →
      6 ≤ o.cap.toNat →
      exec (.encodeHeliosTriggerMode o r) s
        = .next (s.answered (deviceFrame o 0x36 6
            #v[r.period100us.extractLsb' 0 8, r.period100us.extractLsb' 8 8, r.pulseUs.extractLsb' 0 8,
               r.pulseUs.extractLsb' 8 8, r.cameraDelayUs.extractLsb' 0 8, r.cameraDelayUs.extractLsb' 8 8, 0, 0]))) ∧
    (∀ r : HeliosTriggerMode, s.cfg.devRom 0x36 = some .heliosTriggerMode → o.node.toNat ≤ 7 →
      s.cfg.triggerModeLen = .four →
      4 ≤ o.cap.toNat →
      exec (.encodeHeliosTriggerMode o r) s
        = .next (s.answered (deviceFrame o 0x36 4
            #v[r.period100us.extractLsb' 0 8, r.period100us.extractLsb' 8 8, r.pulseUs.extractLsb' 0 8,
               r.pulseUs.extractLsb' 8 8, 0, 0, 0, 0]))) ∧
    (∀ r : HeliosSetPoint, s.cfg.devRom 0x34 = some .heliosSetPoint →
      encodeRefusals s (.encodeHeliosSetPoint o r) o 2) ∧
    (∀ r : HeliosPulseMode, s.cfg.devRom 0x35 = some .heliosPulseMode →
      encodeRefusals s (.encodeHeliosPulseMode o r) o 2) ∧
    (∀ r : HeliosTriggerMode, s.cfg.devRom 0x36 = some .heliosTriggerMode →
      encodeRefusals s (.encodeHeliosTriggerMode o r) o s.cfg.triggerModeLen.bytes)

/-- R230 (its range check is `RangeOverflowNamesTheFirstField`), R232, R234: the Zeus messages without a fixed-point field
encode, after the fan status, node and length checks in that order. -/
def Obligations.ZeusIntegerMessagesEncode : Prop :=
  ∀ (o : EncOps) (s : State), s.portReady → o.cap.toNat ≤ 8 →
    (∀ r : ZeusConfig, s.cfg.devRom 0x3B = some .zeusConfig → o.node.toNat ≤ 7 → 8 ≤ o.cap.toNat →
      r.pd0.divPd.toNat ≤ 15 → r.pd0.divI.toNat ≤ 15 → r.pd1.divPd.toNat ≤ 15 → r.pd1.divI.toNat ≤ 15 →
      exec (.encodeZeusConfig o r) s
        = .next (s.answered (deviceFrame o 0x3B 8
            #v[r.pd0.prop, r.pd0.deriv, r.pd0.integ, r.pd0.divI * 16 + r.pd0.divPd,
               r.pd1.prop, r.pd1.deriv, r.pd1.integ, r.pd1.divI * 16 + r.pd1.divPd]))) ∧
    (∀ r : ZeusStatus, s.cfg.devRom 0x3C = some .zeusStatus → o.node.toNat ≤ 7 → 7 ≤ o.cap.toNat →
      r.fan0.fstatus ≠ 3 → r.fan1.fstatus ≠ 3 → r.fan2.fstatus ≠ 3 →
      exec (.encodeZeusStatus o r) s
        = .next (s.answered (deviceFrame o 0x3C 7
            #v[r.status, (fanEncode r.fan0).extractLsb' 0 8, (fanEncode r.fan0).extractLsb' 8 8,
               (fanEncode r.fan1).extractLsb' 0 8, (fanEncode r.fan1).extractLsb' 8 8,
               (fanEncode r.fan2).extractLsb' 0 8, (fanEncode r.fan2).extractLsb' 8 8, 0]))) ∧
    (∀ r : ZeusControlPoint, s.cfg.devRom 0x3D = some .zeusControlPoint → o.node.toNat ≤ 7 → 4 ≤ o.cap.toNat →
      exec (.encodeZeusControlPoint o r) s
        = .next (s.answered (deviceFrame o 0x3D 4
            #v[r.humidity.extractLsb' 0 8, r.humidity.extractLsb' 8 8, r.temperature.extractLsb' 0 8,
               r.temperature.extractLsb' 8 8, 0, 0, 0, 0]))) ∧
    (∀ r : ZeusConfig, s.cfg.devRom 0x3B = some .zeusConfig → encodeRefusals s (.encodeZeusConfig o r) o 8) ∧
    (∀ r : ZeusStatus, s.cfg.devRom 0x3C = some .zeusStatus → r.fan0.fstatus ≠ 3 → r.fan1.fstatus ≠ 3 →
      r.fan2.fstatus ≠ 3 → encodeRefusals s (.encodeZeusStatus o r) o 7) ∧
    (∀ r : ZeusStatus, s.cfg.devRom 0x3C = some .zeusStatus →
      (r.fan0.fstatus = 3 → exec (.encodeZeusStatus o r) s = .next (s.answered (errorAnswer 0x1 8 false 4 1))) ∧
      (r.fan0.fstatus ≠ 3 → r.fan1.fstatus = 3 →
        exec (.encodeZeusStatus o r) s = .next (s.answered (errorAnswer 0x1 8 false 4 2))) ∧
      (r.fan0.fstatus ≠ 3 → r.fan1.fstatus ≠ 3 → r.fan2.fstatus = 3 →
        exec (.encodeZeusStatus o r) s = .next (s.answered (errorAnswer 0x1 8 false 4 3)))) ∧
    (∀ r : ZeusControlPoint, s.cfg.devRom 0x3D = some .zeusControlPoint →
      encodeRefusals s (.encodeZeusControlPoint o r) o 4)

/-- R225, R227, R236: the Zeus messages with fixed-point fields encode for every f32 their fields hold; the five fields of a
report are packed without overlap; the node and length checks come first. -/
def Obligations.ZeusFixedPointMessagesEncode : Prop :=
  ∀ (o : EncOps) (s : State), s.portReady → o.cap.toNat ≤ 8 →
    (∀ r : ZeusSetPoint, s.cfg.devRom 0x38 = some .zeusSetPoint → o.node.toNat ≤ 7 → 5 ≤ o.cap.toNat →
      exec (.encodeZeusSetPoint o r) s
        = .next (s.answered (deviceFrame o 0x38 5
            #v[(humToBin r.humidity).extractLsb' 0 8, (humToBin r.humidity).extractLsb' 8 8,
               (tempToBin r.temperature).extractLsb' 0 8, (tempToBin r.temperature).extractLsb' 8 8, r.wind, 0, 0, 0]))) ∧
    (∀ r : ZeusReport, s.cfg.devRom 0x39 = some .zeusReport → o.node.toNat ≤ 7 → o.cap.toNat = 8 →
      ∃ d : Payload,
        exec (.encodeZeusReport o r) s = .next (s.answered (deviceFrame o 0x39 8 d)) ∧
        d.byte 7 ++ d.byte 6 ++ d.byte 5 ++ d.byte 4 ++ d.byte 3 ++ d.byte 2 ++ d.byte 1 ++ d.byte 0
          = tmpToBin r.aux2 ++ tmpToBin r.aux1 ++ tmpToBin r.aux0
            ++ (tempToBin r.temperature).extractLsb' 0 14 ++ (humToBin r.humidity).extractLsb' 0 14 ∧
        (humToBin r.humidity).toNat ≤ 16382 ∧ (tempToBin r.temperature).toNat ≤ 16382) ∧
    (∀ r : ZeusDeltaTemperature, s.cfg.devRom 0x3E = some .zeusDeltaTemperature → o.node.toNat ≤ 7 → o.cap.toNat = 8 →
      exec (.encodeZeusDeltaTemperature o r) s
        = .next (s.answered (deviceFrame o 0x3E 8
            #v[(deltaHToBin r.delta0).extractLsb' 0 8, (deltaHToBin r.delta0).extractLsb' 8 8,
               (deltaTToBin r.delta1).extractLsb' 0 8, (deltaTToBin r.delta1).extractLsb' 8 8,
               (deltaTToBin r.delta2).extractLsb' 0 8, (deltaTToBin r.delta2).extractLsb' 8 8,
               (deltaTToBin r.delta3).extractLsb' 0 8, (deltaTToBin r.delta3).extractLsb' 8 8]))) ∧
    (∀ r : ZeusSetPoint, s.cfg.devRom 0x38 = some .zeusSetPoint → encodeRefusals s (.encodeZeusSetPoint o r) o 5) ∧
    (∀ r : ZeusReport, s.cfg.devRom 0x39 = some .zeusReport → encodeRefusals s (.encodeZeusReport o r) o 8) ∧
    (∀ r : ZeusDeltaTemperature, s.cfg.devRom 0x3E = some .zeusDeltaTemperature →
      encodeRefusals s (.encodeZeusDeltaTemperature o r) o 8)

/-- R182, R185, R189: the network commands encode, `hp` and `node` ignored whatever they are: type 0, the record's class, the
sub-command in the node field; with the errors of R182 and R189 (those of R185 are `ArgumentChecksComeFirst`). -/
def Obligations.NetworkCommandsEncode : Prop :=
  ∀ (o : EncOps) (s : State), s.portReady → o.cap.toNat ≤ 8 →
    (∀ r : ResetRequest, 1 ≤ o.cap.toNat → r.id.toNat ≤ 7 →
      exec (.encodeResetRequest o r) s
        = .next (s.answered (frameAnswer 0 r.cls.toNat 0 false 1 #v[r.id, 0, 0, 0, 0, 0, 0, 0]))) ∧
    (∀ r : ResetRequest, 7 < r.id.toNat →
      exec (.encodeResetRequest o r) s = .next (s.answered (errorAnswer 0x1 7 false 6 (r.id.setWidth 32)))) ∧
    (∀ r : ResetRequest, o.cap.toNat < 1 → r.id.toNat ≤ 7 →
      exec (.encodeResetRequest o r) s = .next (s.answered (errorAnswer 0x1 1 false 0 1))) ∧
    (∀ r : IdChangeRequest, 2 ≤ o.cap.toNat → r.old ≠ 0 → r.new ≠ 0 → r.old ≠ r.new → r.old.toNat ≤ 7 →
      r.new.toNat ≤ 7 →
      exec (.encodeIdChangeRequest o r) s
        = .next (s.answered (frameAnswer 0 r.cls.toNat 2 false 2 #v[r.old, r.new, 0, 0, 0, 0, 0, 0]))) ∧
    (∀ c : BitVec 6,
      exec (.encodeHeartbeatRequest o ⟨c, 0⟩) s
        = .next (s.answered (frameAnswer 0 c.toNat 7 false 0 #v[0, 0, 0, 0, 0, 0, 0, 0]))) ∧
    (∀ (c : BitVec 6) (p : U16), p ≠ 0 → 2 ≤ o.cap.toNat →
      exec (.encodeHeartbeatRequest o ⟨c, p.setWidth 32⟩) s
        = .next (s.answered (frameAnswer 0 c.toNat 7 false 2
            #v[p.extractLsb' 0 8, p.extractLsb' 8 8, 0, 0, 0, 0, 0, 0]))) ∧
    (∀ r : HeartbeatRequest, r.periodMs ≠ 0 → o.cap.toNat < 2 →
      exec (.encodeHeartbeatRequest o r) s = .next (s.answered (errorAnswer 0x1 1 false (o.cap.setWidth 32) 2))) ∧
    (∀ r : HeartbeatRequest, 2 ≤ o.cap.toNat → 65535 < r.periodMs.toNat →
      exec (.encodeHeartbeatRequest o r) s = .next (s.answered (errorAnswer 0x1 3 false 1 0)))

/-- R194: a poll encodes for a registered class, its node from the operand and its record's id ignored; node > 7 is refused
first, then an unregistered class; a capacity of 0 is enough. -/
def Obligations.PollsEncode : Prop :=
  ∀ (o : EncOps) (r : MessageRequest) (s : State), s.portReady → o.cap.toNat ≤ 8 →
    (o.node.toNat ≤ 7 → (s.cfg.devRom r.cls).isSome = true →
      exec (.encodeMessageRequest o r) s
        = .next (s.answered (frameAnswer (if o.hp then 1 else 2) r.cls.toNat o.node.toNat true 0
            #v[0, 0, 0, 0, 0, 0, 0, 0]))) ∧
    (7 < o.node.toNat →
      exec (.encodeMessageRequest o r) s = .next (s.answered (errorAnswer 0x1 7 false 0 (o.node.setWidth 32)))) ∧
    (o.node.toNat ≤ 7 → (s.cfg.devRom r.cls).isNone = true →
      exec (.encodeMessageRequest o r) s = .next (s.answered (errorAnswer 0x1 5 false (r.cls.setWidth 32) 0)))

/-- R185, R348: the argument checks of an ID change, the first that fails in the order of the rule, and only then the length
check. -/
def Obligations.ArgumentChecksComeFirst : Prop :=
  ∀ (o : EncOps) (r : IdChangeRequest) (s : State), s.portReady → o.cap.toNat ≤ 8 →
    let refused := fun (reason : U32) (v : Byte) =>
      exec (.encodeIdChangeRequest o r) s = .next (s.answered (errorAnswer 0x1 7 false reason (v.setWidth 32)))
    (r.old = 0 → refused 1 0) ∧
    (r.old ≠ 0 → r.new = 0 → refused 2 0) ∧
    (r.old ≠ 0 → r.new ≠ 0 → r.old = r.new → refused 3 r.old) ∧
    (r.old ≠ 0 → r.new ≠ 0 → r.old ≠ r.new → 7 < r.old.toNat → refused 4 r.old) ∧
    (r.old ≠ 0 → r.new ≠ 0 → r.old ≠ r.new → r.old.toNat ≤ 7 → 7 < r.new.toNat → refused 5 r.new) ∧
    (r.old ≠ 0 → r.new ≠ 0 → r.old ≠ r.new → r.old.toNat ≤ 7 → r.new.toNat ≤ 7 → o.cap.toNat < 2 →
      exec (.encodeIdChangeRequest o r) s = .next (s.answered (errorAnswer 0x1 1 false (o.cap.setWidth 32) 2)))

/-- R313, R315: for every device tag, whatever its record, a node over 7 is refused before the length, and a capacity
below the message's length before any range check; for ZEUS_STATUS and CELAENO_STATUS, whatever record has no fan status
of 3 (R312 checks that first). The record is read from bits in the layout that the model chose (log entry 4). -/
def Obligations.NodeThenLengthChecks : Prop :=
  ∀ (k : DevKind) (o : EncOps) (tag : Byte) (raw : RawRecord) (s : State), s.portReady → o.cap.toNat ≤ 8 →
    tag.toNat < 64 → s.cfg.devRom (tag.setWidth 6) = some k →
    (k = .zeusStatus →
      let r := (readZeusStatus.read raw.toNat).1
      r.fan0.fstatus ≠ 3 ∧ r.fan1.fstatus ≠ 3 ∧ r.fan2.fstatus ≠ 3) →
    (k = .celaenoStatus → (readCelaenoStatus.read raw.toNat).1.fan.fstatus ≠ 3) →
    (7 < o.node.toNat →
      exec (.encode o tag raw) s = .next (s.answered (errorAnswer 0x1 7 false 0 (o.node.setWidth 32)))) ∧
    (o.node.toNat ≤ 7 → o.cap.toNat < k.payloadLen s.cfg.triggerModeLen →
      exec (.encode o tag raw) s = .next (s.answered (errorAnswer 0x1 1 false (o.cap.setWidth 32)
        (BitVec.ofNat 32 (k.payloadLen s.cfg.triggerModeLen)))))

/-- R316, R344: the range checks, in field order, after every other check: durations over 65535 and dividers over 15. -/
def Obligations.RangeOverflowNamesTheFirstField : Prop :=
  ∀ (o : EncOps) (s : State), s.portReady → o.cap.toNat = 8 → o.node.toNat ≤ 7 →
    (∀ (r : CelaenoConfig) (i : Fin 4), s.cfg.devRom 0x32 = some .celaenoConfig →
      let field := fun j : Fin 4 => #v[r.rampUpMs, r.rampDownMs, r.minimumOnMs, r.debounceMs][j]
      65535 < (field i).toNat → (∀ j, j < i → (field j).toNat ≤ 65535) →
      exec (.encodeCelaenoConfig o r) s = .next (s.answered (errorAnswer 0x1 3 false (BitVec.ofNat 32 i.val) 0))) ∧
    (∀ (r : ZeusConfig) (i : Fin 4), s.cfg.devRom 0x3B = some .zeusConfig →
      let field := fun j : Fin 4 => #v[r.pd0.divPd, r.pd0.divI, r.pd1.divPd, r.pd1.divI][j]
      15 < (field i).toNat → (∀ j, j < i → (field j).toNat ≤ 15) →
      exec (.encodeZeusConfig o r) s = .next (s.answered (errorAnswer 0x1 3 false (#v[3, 4, 8, 9][i]) 0)))

/-- R222, R223: a fan word and a fan record: stalled takes priority, a status is one bit, every valid record comes back. -/
def Obligations.FanWordsRoundTrip : Prop :=
  (∀ w : U16, (fanDecode w).rpm.toNat = w.toNat % 2 ^ 14 ∧
    ((fanDecode w).fstatus = 2 ↔ 2 ^ 15 ≤ w.toNat) ∧
    ((fanDecode w).fstatus = 1 ↔ 2 ^ 14 ≤ w.toNat ∧ w.toNat < 2 ^ 15) ∧
    ((fanDecode w).fstatus = 0 ↔ w.toNat < 2 ^ 14)) ∧
  (∀ f : Fan, f.fstatus ≠ 3 → fanDecode (fanEncode f) = f ∧
    (fanEncode f).toNat = #v[0, 2 ^ 14, 2 ^ 15, 0][f.fstatus.toNat] + f.rpm.toNat)

/-! ### PARSE of what ENCODE builds (45_dispatch.md R319) -/

/-- R319: the device messages of integer and enum fields that ENCODE accepts come back equal, for every capacity from the
message's length to 8. -/
def Obligations.IntegerDeviceMessagesParseBack : Prop :=
  ∀ (o : EncOps) (s : State), s.portReady → o.cap.toNat ≤ 8 → o.node.toNat ≤ 7 →
    let t : BitVec 2 := if o.hp then 1 else 2
    let n : BitVec 3 := o.node.setWidth 3
    (∀ r, s.cfg.devRom 0x2C = some .notusSetPoint → 1 ≤ o.cap.toNat →
      parsesBack s (.encodeNotusSetPoint o r) (deviceAnswer t 0x2C n (.notusSetPoint r))) ∧
    (∀ r, s.cfg.devRom 0x2D = some .notusConfig → 4 ≤ o.cap.toNat →
      parsesBack s (.encodeNotusConfig o r) (deviceAnswer t 0x2D n (.notusConfig r))) ∧
    (∀ r, s.cfg.devRom 0x30 = some .celaenoSetPoint → 1 ≤ o.cap.toNat →
      parsesBack s (.encodeCelaenoSetPoint o r) (deviceAnswer t 0x30 n (.celaenoSetPoint r))) ∧
    (∀ r, s.cfg.devRom 0x31 = some .celaenoStatus → 3 ≤ o.cap.toNat → r.fan.fstatus ≠ 3 →
      parsesBack s (.encodeCelaenoStatus o r) (deviceAnswer t 0x31 n (.celaenoStatus r))) ∧
    (∀ r, s.cfg.devRom 0x32 = some .celaenoConfig → 8 ≤ o.cap.toNat → r.rampUpMs.toNat ≤ 65535 →
      r.rampDownMs.toNat ≤ 65535 → r.minimumOnMs.toNat ≤ 65535 → r.debounceMs.toNat ≤ 65535 →
      parsesBack s (.encodeCelaenoConfig o r) (deviceAnswer t 0x32 n (.celaenoConfig r))) ∧
    (∀ r, s.cfg.devRom 0x34 = some .heliosSetPoint → 2 ≤ o.cap.toNat →
      parsesBack s (.encodeHeliosSetPoint o r) (deviceAnswer t 0x34 n (.heliosSetPoint r))) ∧
    (∀ r, s.cfg.devRom 0x35 = some .heliosPulseMode → 2 ≤ o.cap.toNat →
      parsesBack s (.encodeHeliosPulseMode o r) (deviceAnswer t 0x35 n (.heliosPulseMode r))) ∧
    (∀ r, s.cfg.devRom 0x36 = some .heliosTriggerMode → s.cfg.triggerModeLen.bytes ≤ o.cap.toNat →
      parsesBack s (.encodeHeliosTriggerMode o r) (deviceAnswer t 0x36 n (.heliosTriggerMode
        { r with cameraDelayUs := if s.cfg.triggerModeLen = .six then r.cameraDelayUs else 0 }))) ∧
    (∀ r, s.cfg.devRom 0x3B = some .zeusConfig → 8 ≤ o.cap.toNat → r.pd0.divPd.toNat ≤ 15 → r.pd0.divI.toNat ≤ 15 →
      r.pd1.divPd.toNat ≤ 15 → r.pd1.divI.toNat ≤ 15 →
      parsesBack s (.encodeZeusConfig o r) (deviceAnswer t 0x3B n (.zeusConfig r))) ∧
    (∀ r, s.cfg.devRom 0x3C = some .zeusStatus → 7 ≤ o.cap.toNat → r.fan0.fstatus ≠ 3 → r.fan1.fstatus ≠ 3 →
      r.fan2.fstatus ≠ 3 →
      parsesBack s (.encodeZeusStatus o r) (deviceAnswer t 0x3C n (.zeusStatus r))) ∧
    (∀ r, s.cfg.devRom 0x3D = some .zeusControlPoint → 4 ≤ o.cap.toNat →
      parsesBack s (.encodeZeusControlPoint o r) (deviceAnswer t 0x3D n (.zeusControlPoint r)))

/-- R319: the device messages with fixed-point fields come back with each such field converted there and back, for
every f32, the other fields equal, for every capacity from the message's length to 8. -/
def Obligations.FixedPointDeviceMessagesParseBack : Prop :=
  ∀ (o : EncOps) (s : State), s.portReady → o.cap.toNat ≤ 8 → o.node.toNat ≤ 7 →
    let t : BitVec 2 := if o.hp then 1 else 2
    let n : BitVec 3 := o.node.setWidth 3
    let hum := fun f => (binToHum (humToBin f)).1
    let temp := fun f => (binToTemp (tempToBin f)).1
    let tmp := fun f => binToTmp ((tmpToBin f).setWidth 16)
    (∀ r, s.cfg.devRom 0x38 = some .zeusSetPoint → 5 ≤ o.cap.toNat →
      parsesBack s (.encodeZeusSetPoint o r) (deviceAnswer t 0x38 n
        (.zeusSetPoint ⟨hum r.humidity, temp r.temperature, r.wind⟩))) ∧
    (∀ r, s.cfg.devRom 0x39 = some .zeusReport → 8 ≤ o.cap.toNat →
      parsesBack s (.encodeZeusReport o r) (deviceAnswer t 0x39 n
        (.zeusReport ⟨hum r.humidity, temp r.temperature, tmp r.aux0, tmp r.aux1, tmp r.aux2⟩))) ∧
    (∀ r, s.cfg.devRom 0x3E = some .zeusDeltaTemperature → 8 ≤ o.cap.toNat →
      parsesBack s (.encodeZeusDeltaTemperature o r) (deviceAnswer t 0x3E n
        (.zeusDeltaTemperature ⟨binToDeltaH (deltaHToBin r.delta0), binToDeltaT (deltaTToBin r.delta1),
          binToDeltaT (deltaTToBin r.delta2), binToDeltaT (deltaTToBin r.delta3)⟩)))

/-- R319: the encodable network commands and the poll come back equal, `rnode` 0 for the commands, the poll's id being
the node operand, for every capacity from the message's length to 8. -/
def Obligations.NetworkMessagesParseBack : Prop :=
  ∀ (o : EncOps) (s : State), s.portReady → o.cap.toNat ≤ 8 →
    (∀ r : ResetRequest, 1 ≤ o.cap.toNat → r.id.toNat ≤ 7 →
      parsesBack s (.encodeResetRequest o r) (networkAnswer 0x40 r.cls 0 (.resetRequest r))) ∧
    (∀ r : IdChangeRequest, 2 ≤ o.cap.toNat →
      r.old ≠ 0 → r.new ≠ 0 → r.old ≠ r.new → r.old.toNat ≤ 7 → r.new.toNat ≤ 7 →
      parsesBack s (.encodeIdChangeRequest o r) (networkAnswer 0x42 r.cls 2 (.idChangeRequest r))) ∧
    (∀ r : HeartbeatRequest, (if r.periodMs = 0 then 0 else 2) ≤ o.cap.toNat → r.periodMs.toNat ≤ 65535 →
      parsesBack s (.encodeHeartbeatRequest o r) (networkAnswer 0x47 r.cls 7 (.heartbeatRequest r))) ∧
    (∀ r : MessageRequest, o.node.toNat ≤ 7 → (s.cfg.devRom r.cls).isSome = true →
      parsesBack s (.encodeMessageRequest o r)
        ⟨0x0, .parsed 0x80 o.node (if o.hp then 1 else 2) r.cls (o.node.setWidth 3)
          (.messageRequest ⟨r.cls, o.node.setWidth 3⟩)⟩)

/-! ### The transaction and the machine -/

/-- R300, R340: every instruction completes exactly where its port exists, with one response that echoes its op code; it
changes that port's response register and valid bit and nothing else; on a port that does not exist it is a fault. -/
def Obligations.SubmitChangesOnlyItsPort : Prop :=
  ∀ (i : Instr) (s : State),
    (s.portReady →
      ∃ (r : Response) (t : State), r.op = opCode i ∧ exec i s = .next t ∧
        t.ports[s.curPort]? = some ⟨true, r⟩ ∧
        (∀ p, p ≠ s.curPort → t.ports[p]? = s.ports[p]?) ∧
        t.ports.length = s.ports.length ∧ t.cfg = s.cfg ∧ t.curPort = s.curPort ∧ t.pending = s.pending ∧
        t.lastRead = s.lastRead) ∧
    (¬ s.portReady → exec i s = .fault (.noSuchPort s.curPort))

/-- R70: a response depends only on the request and the configuration, not on the port, nor on what any port holds. -/
def Obligations.ResponseDependsOnlyOnTheRequest : Prop :=
  ∀ (i : Instr) (cfg : Config), ∃ r : Response, ∀ s : State, s.cfg = cfg → s.portReady →
    exec i s = .next (s.answered r)

/-- R70: two Submits on different ports leave the same state in either order (the model's own curPort apart, which the
statement sets). -/
def Obligations.SubmitsOnDifferentPortsCommute : Prop :=
  ∀ (i j : Instr) (p q : Nat) (s : State), p ≠ q → p < s.ports.length → q < s.ports.length →
    ∃ si sj sij sji : State,
      exec i { s with curPort := p } = .next si ∧ exec j { si with curPort := q } = .next sij ∧
      exec j { s with curPort := q } = .next sj ∧ exec i { sj with curPort := p } = .next sji ∧
      sij.ports = sji.ports ∧ sij.cfg = sji.cfg

/-- R350: the response of every instruction, in every state, is legal: `wrapped` only from PARSE with kind 1 or 2, an error
kind of 1 to 8, and every success layout as R103 to R105 say. -/
def Obligations.EveryResponseIsLegal : Prop :=
  ∀ (i : Instr) (s t : State), exec i s = .next t →
    ∃ port, t.ports[s.curPort]? = some port ∧ port.respValid = true ∧ port.resp.legal = true

/-- A step at a Submit runs the instruction that the decoder reads from its image, on the Submit's port, the action taken off
the list. -/
def Obligations.StepRunsTheDecodedInstruction : Prop :=
  ∀ (s : State) (p : Nat) (img : Image) (rest : List HostAction) (i : Instr),
    s.pending = .submit p img :: rest → decode img = .ok i →
    step s = exec i { s with curPort := p, pending := rest }

/-- R358, R380: a Read returns a valid response and changes no port, faults otherwise; a Reset clears every valid bit and keeps
the configuration; with no action left a step changes nothing (log entry 3). -/
def Obligations.HostActionsReadAndReset : Prop :=
  ∀ (s : State) (rest : List HostAction),
    (s.pending = [] → step s = .next s) ∧
    (∀ p, s.pending = .read p :: rest →
      (∀ r, s.ports[p]? = some ⟨true, r⟩ → step s = .next { s with pending := rest, lastRead := some r }) ∧
      (∀ r, s.ports[p]? = some ⟨false, r⟩ → step s = .fault (.responseNotValid p)) ∧
      (s.ports.length ≤ p → step s = .fault (.noSuchPort p))) ∧
    (s.pending = .reset :: rest →
      ∃ t, step s = .next t ∧ t.ports.length = s.ports.length ∧ (∀ port ∈ t.ports, port.respValid = false) ∧
        t.cfg = s.cfg ∧ t.pending = rest ∧ t.lastRead = s.lastRead)

/-- R387, R384: a step completes exactly where the next action is one that the spec allows: the block never halts. -/
def Obligations.StepCompletesExactlyWhenSafe : Prop :=
  ∀ s : State, (∃ t, step s = .next t) ↔ s.safe

/-- R42: no step changes NUM_PORTS, TRIGGER_MODE_LEN or DEV_CLASS_TABLE, and only the ports' content, the model's own fields
and what the host read can change; `resp_valid` falls only by a Reset. The list of host actions, which loses its first, is the
model's (log entry 3). -/
def Obligations.StepKeepsTheInstance : Prop :=
  ∀ s t : State, step s = .next t →
    t.cfg = s.cfg ∧ t.ports.length = s.ports.length ∧ t.pending = s.pending.tail ∧
    (s.pending.head? ≠ some .reset →
      ∀ (p : Nat) (port : Port), s.ports[p]? = some port → port.respValid = true →
        ∃ port' : Port, t.ports[p]? = some port' ∧ port'.respValid = true)

/-- The invariant is kept by every step: every valid response stays one that the spec's layouts allow, and the block has a
port. -/
def Obligations.StepKeepsTheInvariant : Prop :=
  ∀ s t : State, s.Inv → step s = .next t → t.Inv

/-- R42, R380: reset leaves every `resp_valid` 0 and meets the invariant, for every number of ports and every
configuration, the default instance among them. -/
def Obligations.ResetMeetsTheInvariant : Prop :=
  (∀ (n : Nat) (cfg : Config), 0 < n →
    (State.resetWith n cfg).Inv ∧ (State.resetWith n cfg).ports.length = n ∧ (State.resetWith n cfg).cfg = cfg ∧
    ∀ port ∈ (State.resetWith n cfg).ports, port.respValid = false) ∧
  State.reset.Inv

/-! ### Encoding -/

/-- The decoder reads every well-formed instruction back from its image, with every operand at every value. -/
def Obligations.DecodeReadsBackEveryInstruction : Prop :=
  ∀ i : Instr, i.wf = true → decode (encode i) = .ok i

/-- An image that decodes is the image of the instruction it decodes to, which is well formed: no two images stand for one
request. -/
def Obligations.EncodeWritesBackEveryImage : Prop :=
  ∀ (img : Image) (i : Instr), decode img = .ok i → encode i = img ∧ i.wf = true

/-- R95, R106, R130: words of the opcode table, written out from their match values, decode to their rows. -/
def Obligations.TableWordsDecodeToTheirRows : Prop :=
  decodeTableWord 8 0x02 = some (.idEncode 0 0 0) ∧
  decodeTableWord 8 0x0B = some (.reservedOpB 0) ∧
  decodeTableWord 16 0x1000 = some (.parseExtendedReject false 0 0 0 ⟨0, 0, .zero⟩) ∧
  decodeTableWord 16 0x0007 = some (.parseNetHeartbeatRequest 0 ⟨0, 0, .zero⟩) ∧
  decodeTableWord 16 0x05C1 = some (.parseZeusSetPointStd 1 ⟨0, 0, .zero⟩) ∧
  decodeTableWord 16 0x03D2 = some (.parseUnknownClassHp 0x3A 2 ⟨0, 0, .zero⟩) ∧
  decodeTableWord 8 0x42 = some (.encodeIdChangeRequest ⟨false, 0, 0⟩ ⟨0, 0, 0⟩) ∧
  decodeTableWord 8 0x99 = some (.encodeNotEncodable ⟨false, 0, 0⟩ 0x99 0)
end

