-- ==== Sys2Proof/Laws/Bits.lean ====
section
/-! SUPPORT. Reading a bit string and writing one undo each other, field by field. -/

namespace Sys2Proof

@[simp] theorem Bits.read_bind {α β : Type} (b : Bits α) (f : α → Bits β) (n : Nat) :
    Bits.read (b >>= f) n = (f (b.read n).1).read (b.read n).2 := rfl

@[simp] theorem Bits.read_pure {α : Type} (a : α) (n : Nat) : Bits.read (pure a) n = (a, n) := rfl

@[simp] theorem Bits.read_map {α β : Type} (f : α → β) (b : Bits α) (n : Nat) :
    Bits.read (f <$> b) n = (f (b.read n).1, (b.read n).2) := rfl

/-- A field read where it was written. -/
@[simp] theorem read_bits_putBits {w : Nat} (v : BitVec w) (rest : Nat) :
    (bits w).read (putBits v rest) = (v, rest) := by
  have hpos : 0 < 2 ^ w := Nat.two_pow_pos w
  show (BitVec.ofNat w (v.toNat + 2 ^ w * rest), (v.toNat + 2 ^ w * rest) / 2 ^ w) = (v, rest)
  rw [Nat.add_mul_div_left _ _ hpos, Nat.div_eq_of_lt v.isLt, Nat.zero_add]
  congr 1
  apply BitVec.eq_of_toNat_eq
  rw [BitVec.toNat_ofNat, Nat.add_mul_mod_self_left, Nat.mod_eq_of_lt v.isLt]

/-- A flag read where it was written. -/
@[simp] theorem read_flag_putFlag (b : Bool) (rest : Nat) : flag.read (putFlag b rest) = (b, rest) := by
  show ((b.toNat + 2 * rest) % 2 == 1, (b.toNat + 2 * rest) / 2) = (b, rest)
  cases b <;> (simp; try omega)

/-- A field written back where it was read. -/
theorem putBits_read_bits (w n : Nat) : putBits ((bits w).read n).1 ((bits w).read n).2 = n := by
  show (BitVec.ofNat w n).toNat + 2 ^ w * (n / 2 ^ w) = n
  rw [BitVec.toNat_ofNat]
  exact Nat.mod_add_div n (2 ^ w)

/-- A flag written back where it was read. -/
theorem putFlag_read_flag (n : Nat) : putFlag (flag.read n).1 (flag.read n).2 = n := by
  show (n % 2 == 1).toNat + 2 * (n / 2) = n
  rcases Nat.mod_two_eq_zero_or_one n with h | h <;> simp [h] <;> omega

/-- A list of bytes made from a number has the length asked for. -/
@[simp] theorem length_bytesOfNat (len n : Nat) : (bytesOfNat len n).length = len := by
  induction len generalizing n with
  | zero => rfl
  | succ len ih => simp [bytesOfNat, ih]

/-- The number that the low bytes of `n` hold. -/
theorem natOfBytes_bytesOfNat (len n : Nat) : natOfBytes (bytesOfNat len n) = n % 256 ^ len := by
  induction len generalizing n with
  | zero => simp [bytesOfNat, natOfBytes, Nat.mod_one]
  | succ len ih =>
    rw [bytesOfNat, natOfBytes, ih, BitVec.toNat_ofNat, Nat.pow_succ' (m := 256), Nat.mod_mul (a := 256)]

/-- The bytes of the number that a list of bytes holds. -/
theorem bytesOfNat_natOfBytes (bs : List Byte) : bytesOfNat bs.length (natOfBytes bs) = bs := by
  induction bs with
  | nil => rfl
  | cons b bs ih =>
    have hb := b.isLt
    simp only [List.length_cons, natOfBytes, bytesOfNat]
    rw [show (b.toNat + 256 * natOfBytes bs) / 256 = natOfBytes bs by omega, ih]
    congr 1
    apply BitVec.eq_of_toNat_eq
    rw [BitVec.toNat_ofNat]
    omega

end Sys2Proof
end

