-- ==== Sys2Proof/Laws/State.lean ====
section
/-! SUPPORT. One lemma per field per update of `State`, so that no proof unfolds a record update. -/

namespace Sys2Proof.Machine

@[simp] theorem State.answered_ports (s : State) (r : Response) :
    (s.answered r).ports = s.ports.set s.curPort ⟨true, r⟩ := rfl
@[simp] theorem State.answered_cfg (s : State) (r : Response) : (s.answered r).cfg = s.cfg := rfl
@[simp] theorem State.answered_curPort (s : State) (r : Response) : (s.answered r).curPort = s.curPort := rfl
@[simp] theorem State.answered_pending (s : State) (r : Response) : (s.answered r).pending = s.pending := rfl
@[simp] theorem State.answered_lastRead (s : State) (r : Response) : (s.answered r).lastRead = s.lastRead := rfl

@[simp] theorem State.blockReset_ports (s : State) : s.blockReset.ports = s.ports.map fun _ => Port.reset := rfl
@[simp] theorem State.blockReset_cfg (s : State) : s.blockReset.cfg = s.cfg := rfl
@[simp] theorem State.blockReset_curPort (s : State) : s.blockReset.curPort = s.curPort := rfl
@[simp] theorem State.blockReset_pending (s : State) : s.blockReset.pending = s.pending := rfl
@[simp] theorem State.blockReset_lastRead (s : State) : s.blockReset.lastRead = s.lastRead := rfl

@[simp] theorem State.withFetchWord_ports (s : State) (b w : Nat) : (s.withFetchWord b w).ports = s.ports := rfl
@[simp] theorem State.withFetchWord_cfg (s : State) (b w : Nat) : (s.withFetchWord b w).cfg = s.cfg := rfl
@[simp] theorem State.withFetchWord_curPort (s : State) (b w : Nat) : (s.withFetchWord b w).curPort = s.curPort := rfl
@[simp] theorem State.withFetchWord_pending (s : State) (b w : Nat) :
    (s.withFetchWord b w).pending = .submit 0 (tableImage b w) :: s.pending := rfl
@[simp] theorem State.withFetchWord_lastRead (s : State) (b w : Nat) :
    (s.withFetchWord b w).lastRead = s.lastRead := rfl

@[simp] theorem State.resetWith_ports (n : Nat) (cfg : Config) :
    (State.resetWith n cfg).ports = List.replicate n Port.reset := rfl
@[simp] theorem State.resetWith_cfg (n : Nat) (cfg : Config) : (State.resetWith n cfg).cfg = cfg := rfl
@[simp] theorem State.resetWith_curPort (n : Nat) (cfg : Config) : (State.resetWith n cfg).curPort = 0 := rfl
@[simp] theorem State.resetWith_pending (n : Nat) (cfg : Config) : (State.resetWith n cfg).pending = [] := rfl
@[simp] theorem State.resetWith_lastRead (n : Nat) (cfg : Config) : (State.resetWith n cfg).lastRead = none := rfl

/-- The port that answered holds the response, valid (45_dispatch.md R300). -/
theorem State.answered_getElem_same (s : State) (r : Response) (h : s.curPort < s.ports.length) :
    (s.answered r).ports[s.curPort]? = some ⟨true, r⟩ := by
  simp [h]

/-- Every other port is as it was (R300). -/
theorem State.answered_getElem_other (s : State) (r : Response) {p : Nat} (h : p ≠ s.curPort) :
    (s.answered r).ports[p]? = s.ports[p]? := by
  simp [Ne.symm h]

/-- Answering keeps the number of ports. -/
@[simp] theorem State.answered_ports_length (s : State) (r : Response) :
    (s.answered r).ports.length = s.ports.length := by
  simp

/-- A reset keeps the number of ports (70_reset_and_hazards.md R380). -/
@[simp] theorem State.blockReset_ports_length (s : State) : s.blockReset.ports.length = s.ports.length := by
  simp

end Sys2Proof.Machine
end

