-- ==== Sys2Proof/Laws/Ops.lean ====
section
/-! SUPPORT. What each shared operation can do, said once: later proofs cite these lemmas and unfold nothing. -/

namespace Sys2Proof.Machine

/-! ### Answering and the host's actions -/

/-- A Submit on an existing port completes. -/
theorem State.respond_ready {s : State} (h : s.portReady) (r : Response) : s.respond r = .next (s.answered r) :=
  if_pos h

/-- A Submit on a port past the last one is a fault of the model. -/
theorem State.respond_noPort {s : State} (h : ¬ s.portReady) (r : Response) :
    s.respond r = .fault (.noSuchPort s.curPort) :=
  if_neg h

/-- All that `respond` can do. -/
theorem State.respond_cases (s : State) (r : Response) :
    (s.portReady ∧ s.respond r = .next (s.answered r)) ∨
    (¬ s.portReady ∧ s.respond r = .fault (.noSuchPort s.curPort)) := by
  by_cases h : s.portReady
  · exact .inl ⟨h, State.respond_ready h r⟩
  · exact .inr ⟨h, State.respond_noPort h r⟩

/-- If `respond` answers a next state, the port exists and the state is the answered one. -/
theorem State.respond_eq_next {s t : State} {r : Response} (h : s.respond r = .next t) :
    s.portReady ∧ t = s.answered r := by
  obtain ⟨hp, he⟩ | ⟨_, he⟩ := State.respond_cases s r
  · exact ⟨hp, by rw [he] at h; exact (Host.Outcome.next.inj h).symm⟩
  · rw [he] at h; cases h

/-- All that a Read can do (60_exceptions.md R358). -/
theorem State.readPort_cases (s : State) (p : Nat) :
    (∃ port, s.ports[p]? = some port ∧ port.respValid = true ∧
      s.readPort p = .next { s with lastRead := some port.resp }) ∨
    (∃ port, s.ports[p]? = some port ∧ port.respValid = false ∧ s.readPort p = .fault (.responseNotValid p)) ∨
    (s.ports[p]? = none ∧ s.readPort p = .fault (.noSuchPort p)) := by
  unfold State.readPort
  cases hp : s.ports[p]? with
  | none => exact .inr (.inr ⟨rfl, rfl⟩)
  | some port =>
    cases hv : port.respValid with
    | true => exact .inl ⟨port, rfl, hv, by simp [hv]⟩
    | false => exact .inr (.inl ⟨port, rfl, hv, by simp [hv]⟩)

/-- What the next action asks, action by action. -/
theorem fetch_nil {s : State} (h : s.pending = []) : fetch s = .idle := by
  simp [fetch, h]

theorem fetch_submit {s : State} {p : Nat} {img : Image} {rest : List HostAction} {i : Instr}
    (h : s.pending = .submit p img :: rest) (hi : decode img = .ok i) :
    fetch s = .run i { s with curPort := p, pending := rest } := by
  simp [fetch, h, hi]

theorem fetch_submit_malformed {s : State} {p : Nat} {img : Image} {rest : List HostAction} {why : DecodeError}
    (h : s.pending = .submit p img :: rest) (hi : decode img = .error why) :
    fetch s = .done (.refused (.malformedImage why)) := by
  simp [fetch, h, hi]

theorem fetch_read {s : State} {p : Nat} {rest : List HostAction} (h : s.pending = .read p :: rest) :
    fetch s = .done ({ s with pending := rest }.readPort p) := by
  simp [fetch, h]

theorem fetch_reset {s : State} {rest : List HostAction} (h : s.pending = .reset :: rest) :
    fetch s = .done (.next { s with pending := rest }.blockReset) := by
  simp [fetch, h]

/-! ### Checks -/

@[simp] theorem lenChecked_long {len : BitVec 4} (h : 8 < len.toNat) (b : Body) :
    lenChecked len b = raise (badRequest 2 0) := if_pos h

@[simp] theorem lenChecked_short {len : BitVec 4} (h : len.toNat ≤ 8) (b : Body) : lenChecked len b = b :=
  if_neg (by omega)

@[simp] theorem capChecked_big {o : EncOps} (h : 8 < o.cap.toNat) (b : Body) :
    capChecked o b = raise (badRequest 3 0) := if_pos h

@[simp] theorem capChecked_small {o : EncOps} (h : o.cap.toNat ≤ 8) (b : Body) : capChecked o b = b :=
  if_neg (by omega)

@[simp] theorem atLeast_short {len : BitVec 4} {need : Nat} (h : len.toNat < need) (r : Except Err Record) :
    atLeast len need r = .error (bufferTooSmall len.toNat need) := if_pos h

@[simp] theorem atLeast_enough {len : BitVec 4} {need : Nat} (h : need ≤ len.toNat) (r : Except Err Record) :
    atLeast len need r = r := if_neg (by omega)

@[simp] theorem firstFailing_nil : firstFailing [] = none := rfl

@[simp] theorem firstFailing_cons_true (e : Err) (l : List (Bool × Err)) : firstFailing ((true, e) :: l) = some e := rfl

@[simp] theorem firstFailing_cons_false (e : Err) (l : List (Bool × Err)) :
    firstFailing ((false, e) :: l) = firstFailing l := rfl

/-- An error that a list of checks raises is one of the list's. -/
theorem firstFailing_mem {l : List (Bool × Err)} {e : Err} (h : firstFailing l = some e) : (true, e) ∈ l := by
  induction l with
  | nil => simp at h
  | cons c l ih =>
    obtain ⟨failed, e'⟩ := c
    cases failed with
    | false => exact List.mem_cons_of_mem _ (ih h)
    | true => simp at h; simp [h]

/-- All that the checks of ENCODE after the tag can do (60_exceptions.md R351): an error of the first check that fails,
or the frame. -/
theorem runParts_cases (o : EncOps) (p : Parts) :
    (∃ idx, p.enumFault = some idx ∧ runParts o p = raise (badRequest 4 idx)) ∨
    (p.nodeChecked = true ∧ 7 < o.node.toNat ∧ runParts o p = raise (invalidArgument 0 o.node)) ∨
    (∃ e, p.check = some e ∧ runParts o p = raise e) ∨
    (o.cap.toNat < p.len ∧ runParts o p = raise (bufferTooSmall o.cap.toNat p.len)) ∨
    (∃ e, p.range = some e ∧ runParts o p = raise e) ∨
    (p.enumFault = none ∧ ¬ (p.nodeChecked = true ∧ 7 < o.node.toNat) ∧ p.check = none ∧ p.len ≤ o.cap.toNat ∧
      p.range = none ∧ runParts o p = .frame p.frame) := by
  cases he : p.enumFault with
  | some idx => exact .inl ⟨idx, rfl, by simp [runParts, he]⟩
  | none =>
    by_cases hn : p.nodeChecked = true ∧ 7 < o.node.toNat
    · exact .inr (.inl ⟨hn.1, hn.2, by simp [runParts, he, hn]⟩)
    · cases hc : p.check with
      | some e => exact .inr (.inr (.inl ⟨e, rfl, by simp [runParts, he, hn, hc]⟩))
      | none =>
        by_cases hl : o.cap.toNat < p.len
        · exact .inr (.inr (.inr (.inl ⟨hl, by simp [runParts, he, hn, hc, hl]⟩)))
        · cases hr : p.range with
          | some e => exact .inr (.inr (.inr (.inr (.inl ⟨e, rfl, by simp [runParts, he, hn, hc, hl, hr]⟩))))
          | none =>
            exact .inr (.inr (.inr (.inr (.inr
              ⟨rfl, hn, rfl, by omega, rfl, by simp [runParts, he, hn, hc, hl, hr]⟩))))

/-- The frame, where every check passes. -/
theorem runParts_frame {o : EncOps} {p : Parts} (he : p.enumFault = none)
    (hn : ¬ (p.nodeChecked = true ∧ 7 < o.node.toNat)) (hc : p.check = none) (hl : p.len ≤ o.cap.toNat)
    (hr : p.range = none) : runParts o p = .frame p.frame := by
  have : ¬ o.cap.toNat < p.len := by omega
  simp [runParts, he, hc, hr, this, hn]

end Sys2Proof.Machine
end

