-- ==== Sys2Proof/Laws/Payload.lean ====
section
/-! SUPPORT. The payload buffers: reading a byte after a write, and what MemRead is in terms of bytes. -/

namespace Sys2Proof.Machine

/-- Setting a byte and reading one. -/
theorem byte_setIfInBounds (d : Payload) (k j : Nat) (b : Byte) (hj : j < 8) :
    Payload.byte (d.setIfInBounds k b) j = if k = j then b else d.byte j := by
  by_cases h : k = j
  · subst h; simp [Payload.byte, hj]
  · simp [Payload.byte, h, hj]

/-- A write changes only the bytes it writes (00_scope.md R15). -/
theorem byte_memWrite_other (d : Payload) (k n v j : Nat) (hj : j < 8) (h : j < k ∨ k + n ≤ j) :
    (memWrite d k n v).byte j = d.byte j := by
  induction n generalizing d k v with
  | zero => rfl
  | succ n ih =>
    rw [memWrite, ih _ _ _ (by omega), byte_setIfInBounds _ _ _ _ hj, if_neg (by omega)]

/-- A write sets `data[k+j]` to `(v >> (8*j)) & 0xFF` (R15). -/
theorem byte_memWrite_same (d : Payload) (k n v j : Nat) (hj : j < n) (h : k + j < 8) :
    (memWrite d k n v).byte (k + j) = BitVec.ofNat 8 (v / 256 ^ j) := by
  induction n generalizing d k v j with
  | zero => omega
  | succ n ih =>
    rw [memWrite]
    cases j with
    | zero => rw [byte_memWrite_other _ _ _ _ _ h (by omega), byte_setIfInBounds _ _ _ _ h]; simp
    | succ j =>
      have := ih (d.setIfInBounds k (BitVec.ofNat 8 v)) (k + 1) (v / 256) j (by omega) (by omega)
      rw [show k + (j + 1) = k + 1 + j by omega, this, Nat.div_div_eq_div_mul, Nat.pow_succ, Nat.mul_comm]

/-- A byte read is the byte. -/
@[simp] theorem memRead8_eq (d : Payload) (k : Nat) : memRead8 d k = d.byte k := by
  simp [memRead8, memRead]

/-- A 16-bit read is the two bytes, the first one lowest (20_memory.md R63). -/
theorem memRead16_eq (d : Payload) (k : Nat) : memRead16 d k = d.byte (k + 1) ++ d.byte k := by
  apply BitVec.eq_of_toNat_eq
  have h0 := (d.byte k).isLt
  have h1 := (d.byte (k + 1)).isLt
  simp only [memRead16, memRead, BitVec.toNat_ofNat, BitVec.toNat_append]
  rw [← Nat.shiftLeft_add_eq_or_of_lt h0, Nat.shiftLeft_eq]
  omega

/-- Two buffers that agree on the bytes a read takes give the same read. -/
theorem memRead_congr {d d' : Payload} {k n : Nat} (h : ∀ j, j < n → d.byte (k + j) = d'.byte (k + j)) :
    memRead d k n = memRead d' k n := by
  induction n generalizing k with
  | zero => rfl
  | succ n ih =>
    have h0 := h 0 (by omega)
    simp only [Nat.add_zero] at h0
    rw [memRead, memRead, h0, ih fun j hj => ?_]
    have := h (j + 1) (by omega)
    rwa [show k + (j + 1) = k + 1 + j by omega] at this

end Sys2Proof.Machine
end

