-- ==== Sys2Proof/Laws/PerInstr.lean ====
section
/-! SUPPORT. One lemma per constructor of `Instr` about its image: it has the length of a request image and the form of
the constructor's row. -/

namespace Sys2Proof.Laws.EncodeImage

/-- The image of an instruction has `imageBytes` bytes and its row's form. -/
def Statement (i : Instr) : Prop := (encode i).bytes.length = imageBytes ∧ (encode i).form = i.form

/-- The image of every instruction is built the same way. -/
theorem of_instr (i : Instr) : Statement i := ⟨length_bytesOfNat _ _, rfl⟩

theorem parse : ∀ a, Statement (.parse a) := fun _ => of_instr _
theorem encode : ∀ a b c, Statement (.encode a b c) := fun _ _ _ => of_instr _
theorem idEncode : ∀ a b c, Statement (.idEncode a b c) := fun _ _ _ => of_instr _
theorem idDecode : ∀ a, Statement (.idDecode a) := fun _ => of_instr _
theorem humToBin : ∀ a, Statement (.humToBin a) := fun _ => of_instr _
theorem binToHum : ∀ a, Statement (.binToHum a) := fun _ => of_instr _
theorem tempToBin : ∀ a, Statement (.tempToBin a) := fun _ => of_instr _
theorem binToTemp : ∀ a, Statement (.binToTemp a) := fun _ => of_instr _
theorem tmpToBin : ∀ a, Statement (.tmpToBin a) := fun _ => of_instr _
theorem binToTmp : ∀ a, Statement (.binToTmp a) := fun _ => of_instr _
theorem reservedOpA : ∀ a, Statement (.reservedOpA a) := fun _ => of_instr _
theorem reservedOpB : ∀ a, Statement (.reservedOpB a) := fun _ => of_instr _
theorem reservedOpC : ∀ a, Statement (.reservedOpC a) := fun _ => of_instr _
theorem reservedOpD : ∀ a, Statement (.reservedOpD a) := fun _ => of_instr _
theorem reservedOpE : ∀ a, Statement (.reservedOpE a) := fun _ => of_instr _
theorem reservedOpF : ∀ a, Statement (.reservedOpF a) := fun _ => of_instr _
theorem parseExtendedReject : ∀ a b c d e, Statement (.parseExtendedReject a b c d e) := fun _ _ _ _ _ => of_instr _
theorem parseRtrNetworkReject : ∀ a b c, Statement (.parseRtrNetworkReject a b c) := fun _ _ _ => of_instr _
theorem parseRtrHeartbeatReject : ∀ a b c, Statement (.parseRtrHeartbeatReject a b c) := fun _ _ _ => of_instr _
theorem parseRtrPollHp : ∀ a b c, Statement (.parseRtrPollHp a b c) := fun _ _ _ => of_instr _
theorem parseRtrPollStd : ∀ a b c, Statement (.parseRtrPollStd a b c) := fun _ _ _ => of_instr _
theorem parseNetResetRequest : ∀ a b, Statement (.parseNetResetRequest a b) := fun _ _ => of_instr _
theorem parseNetSynchronisationReserved : ∀ a b, Statement (.parseNetSynchronisationReserved a b) := fun _ _ => of_instr _
theorem parseNetIdChangeRequest : ∀ a b, Statement (.parseNetIdChangeRequest a b) := fun _ _ => of_instr _
theorem parseNetErrorReport : ∀ a b, Statement (.parseNetErrorReport a b) := fun _ _ => of_instr _
theorem parseNetNetcmd4Unknown : ∀ a b, Statement (.parseNetNetcmd4Unknown a b) := fun _ _ => of_instr _
theorem parseNetNetcmd5Unknown : ∀ a b, Statement (.parseNetNetcmd5Unknown a b) := fun _ _ => of_instr _
theorem parseNetNetcmd6Unknown : ∀ a b, Statement (.parseNetNetcmd6Unknown a b) := fun _ _ => of_instr _
theorem parseNetHeartbeatRequest : ∀ a b, Statement (.parseNetHeartbeatRequest a b) := fun _ _ => of_instr _
theorem parseHeartbeat : ∀ a b c, Statement (.parseHeartbeat a b c) := fun _ _ _ => of_instr _
theorem parseNotusSetPointHp : ∀ a b, Statement (.parseNotusSetPointHp a b) := fun _ _ => of_instr _
theorem parseNotusConfigHp : ∀ a b, Statement (.parseNotusConfigHp a b) := fun _ _ => of_instr _
theorem parseCelaenoSetPointHp : ∀ a b, Statement (.parseCelaenoSetPointHp a b) := fun _ _ => of_instr _
theorem parseCelaenoStatusHp : ∀ a b, Statement (.parseCelaenoStatusHp a b) := fun _ _ => of_instr _
theorem parseCelaenoConfigHp : ∀ a b, Statement (.parseCelaenoConfigHp a b) := fun _ _ => of_instr _
theorem parseHeliosSetPointHp : ∀ a b, Statement (.parseHeliosSetPointHp a b) := fun _ _ => of_instr _
theorem parseHeliosPulseModeHp : ∀ a b, Statement (.parseHeliosPulseModeHp a b) := fun _ _ => of_instr _
theorem parseHeliosTriggerModeHp : ∀ a b, Statement (.parseHeliosTriggerModeHp a b) := fun _ _ => of_instr _
theorem parseZeusSetPointHp : ∀ a b, Statement (.parseZeusSetPointHp a b) := fun _ _ => of_instr _
theorem parseZeusReportHp : ∀ a b, Statement (.parseZeusReportHp a b) := fun _ _ => of_instr _
theorem parseZeusConfigHp : ∀ a b, Statement (.parseZeusConfigHp a b) := fun _ _ => of_instr _
theorem parseZeusStatusHp : ∀ a b, Statement (.parseZeusStatusHp a b) := fun _ _ => of_instr _
theorem parseZeusControlPointHp : ∀ a b, Statement (.parseZeusControlPointHp a b) := fun _ _ => of_instr _
theorem parseZeusDeltaTemperatureHp : ∀ a b, Statement (.parseZeusDeltaTemperatureHp a b) := fun _ _ => of_instr _
theorem parseUnknownClassHp : ∀ a b c, Statement (.parseUnknownClassHp a b c) := fun _ _ _ => of_instr _
theorem parseNotusSetPointStd : ∀ a b, Statement (.parseNotusSetPointStd a b) := fun _ _ => of_instr _
theorem parseNotusConfigStd : ∀ a b, Statement (.parseNotusConfigStd a b) := fun _ _ => of_instr _
theorem parseCelaenoSetPointStd : ∀ a b, Statement (.parseCelaenoSetPointStd a b) := fun _ _ => of_instr _
theorem parseCelaenoStatusStd : ∀ a b, Statement (.parseCelaenoStatusStd a b) := fun _ _ => of_instr _
theorem parseCelaenoConfigStd : ∀ a b, Statement (.parseCelaenoConfigStd a b) := fun _ _ => of_instr _
theorem parseHeliosSetPointStd : ∀ a b, Statement (.parseHeliosSetPointStd a b) := fun _ _ => of_instr _
theorem parseHeliosPulseModeStd : ∀ a b, Statement (.parseHeliosPulseModeStd a b) := fun _ _ => of_instr _
theorem parseHeliosTriggerModeStd : ∀ a b, Statement (.parseHeliosTriggerModeStd a b) := fun _ _ => of_instr _
theorem parseZeusSetPointStd : ∀ a b, Statement (.parseZeusSetPointStd a b) := fun _ _ => of_instr _
theorem parseZeusReportStd : ∀ a b, Statement (.parseZeusReportStd a b) := fun _ _ => of_instr _
theorem parseZeusConfigStd : ∀ a b, Statement (.parseZeusConfigStd a b) := fun _ _ => of_instr _
theorem parseZeusStatusStd : ∀ a b, Statement (.parseZeusStatusStd a b) := fun _ _ => of_instr _
theorem parseZeusControlPointStd : ∀ a b, Statement (.parseZeusControlPointStd a b) := fun _ _ => of_instr _
theorem parseZeusDeltaTemperatureStd : ∀ a b, Statement (.parseZeusDeltaTemperatureStd a b) := fun _ _ => of_instr _
theorem parseUnknownClassStd : ∀ a b c, Statement (.parseUnknownClassStd a b c) := fun _ _ _ => of_instr _
theorem encodeNotusSetPoint : ∀ a b, Statement (.encodeNotusSetPoint a b) := fun _ _ => of_instr _
theorem encodeNotusConfig : ∀ a b, Statement (.encodeNotusConfig a b) := fun _ _ => of_instr _
theorem encodeCelaenoSetPoint : ∀ a b, Statement (.encodeCelaenoSetPoint a b) := fun _ _ => of_instr _
theorem encodeCelaenoStatus : ∀ a b, Statement (.encodeCelaenoStatus a b) := fun _ _ => of_instr _
theorem encodeCelaenoConfig : ∀ a b, Statement (.encodeCelaenoConfig a b) := fun _ _ => of_instr _
theorem encodeHeliosSetPoint : ∀ a b, Statement (.encodeHeliosSetPoint a b) := fun _ _ => of_instr _
theorem encodeHeliosPulseMode : ∀ a b, Statement (.encodeHeliosPulseMode a b) := fun _ _ => of_instr _
theorem encodeHeliosTriggerMode : ∀ a b, Statement (.encodeHeliosTriggerMode a b) := fun _ _ => of_instr _
theorem encodeZeusSetPoint : ∀ a b, Statement (.encodeZeusSetPoint a b) := fun _ _ => of_instr _
theorem encodeZeusReport : ∀ a b, Statement (.encodeZeusReport a b) := fun _ _ => of_instr _
theorem encodeZeusConfig : ∀ a b, Statement (.encodeZeusConfig a b) := fun _ _ => of_instr _
theorem encodeZeusStatus : ∀ a b, Statement (.encodeZeusStatus a b) := fun _ _ => of_instr _
theorem encodeZeusControlPoint : ∀ a b, Statement (.encodeZeusControlPoint a b) := fun _ _ => of_instr _
theorem encodeZeusDeltaTemperature : ∀ a b, Statement (.encodeZeusDeltaTemperature a b) := fun _ _ => of_instr _
theorem encodeResetRequest : ∀ a b, Statement (.encodeResetRequest a b) := fun _ _ => of_instr _
theorem encodeIdChangeRequest : ∀ a b, Statement (.encodeIdChangeRequest a b) := fun _ _ => of_instr _
theorem encodeHeartbeatRequest : ∀ a b, Statement (.encodeHeartbeatRequest a b) := fun _ _ => of_instr _
theorem encodeMessageRequest : ∀ a b, Statement (.encodeMessageRequest a b) := fun _ _ => of_instr _
theorem encodeNotEncodable : ∀ a b c, Statement (.encodeNotEncodable a b c) := fun _ _ _ => of_instr _

end Sys2Proof.Laws.EncodeImage
end

