-- ==== Sys2Proof/Laws/Records.lean ====
section
/-! SUPPORT. Each operand group and each record is read back as it was written. -/

namespace Sys2Proof

@[simp] theorem readPayload_putPayload (d : Payload) (rest : Nat) :
    readPayload.read (putPayload d rest) = (d, rest) := by
  simp only [readPayload, putPayload, Bits.read_bind, Bits.read_pure, read_bits_putBits]
  congr 1
  ext k hk
  match k, hk with
  | 0, _ | 1, _ | 2, _ | 3, _ | 4, _ | 5, _ | 6, _ | 7, _ => rfl

@[simp] theorem readFrame_putFrame (f : Frame) (rest : Nat) : readFrame.read (putFrame f rest) = (f, rest) := by
  simp [readFrame, putFrame]

@[simp] theorem readTail_putTail (x : FrameTail) (rest : Nat) : readTail.read (putTail x rest) = (x, rest) := by
  simp [readTail, putTail]

@[simp] theorem readEncOps_putEncOps (o : EncOps) (rest : Nat) :
    readEncOps.read (putEncOps o rest) = (o, rest) := by
  simp [readEncOps, putEncOps]

@[simp] theorem readFan_putFan (r : Fan) (rest : Nat) :
    readFan.read (putFan r rest) = (r, rest) := by
  simp [readFan, putFan]

@[simp] theorem readPDConfig_putPDConfig (r : PDConfig) (rest : Nat) :
    readPDConfig.read (putPDConfig r rest) = (r, rest) := by
  simp [readPDConfig, putPDConfig]

@[simp] theorem readNotusSetPoint_putNotusSetPoint (r : NotusSetPoint) (rest : Nat) :
    readNotusSetPoint.read (putNotusSetPoint r rest) = (r, rest) := by
  simp [readNotusSetPoint, putNotusSetPoint]

@[simp] theorem readNotusConfig_putNotusConfig (r : NotusConfig) (rest : Nat) :
    readNotusConfig.read (putNotusConfig r rest) = (r, rest) := by
  simp [readNotusConfig, putNotusConfig]

@[simp] theorem readCelaenoSetPoint_putCelaenoSetPoint (r : CelaenoSetPoint) (rest : Nat) :
    readCelaenoSetPoint.read (putCelaenoSetPoint r rest) = (r, rest) := by
  simp [readCelaenoSetPoint, putCelaenoSetPoint]

@[simp] theorem readCelaenoStatus_putCelaenoStatus (r : CelaenoStatus) (rest : Nat) :
    readCelaenoStatus.read (putCelaenoStatus r rest) = (r, rest) := by
  simp [readCelaenoStatus, putCelaenoStatus]

@[simp] theorem readCelaenoConfig_putCelaenoConfig (r : CelaenoConfig) (rest : Nat) :
    readCelaenoConfig.read (putCelaenoConfig r rest) = (r, rest) := by
  simp [readCelaenoConfig, putCelaenoConfig]

@[simp] theorem readHeliosSetPoint_putHeliosSetPoint (r : HeliosSetPoint) (rest : Nat) :
    readHeliosSetPoint.read (putHeliosSetPoint r rest) = (r, rest) := by
  simp [readHeliosSetPoint, putHeliosSetPoint]

@[simp] theorem readHeliosPulseMode_putHeliosPulseMode (r : HeliosPulseMode) (rest : Nat) :
    readHeliosPulseMode.read (putHeliosPulseMode r rest) = (r, rest) := by
  simp [readHeliosPulseMode, putHeliosPulseMode]

@[simp] theorem readHeliosTriggerMode_putHeliosTriggerMode (r : HeliosTriggerMode) (rest : Nat) :
    readHeliosTriggerMode.read (putHeliosTriggerMode r rest) = (r, rest) := by
  simp [readHeliosTriggerMode, putHeliosTriggerMode]

@[simp] theorem readZeusSetPoint_putZeusSetPoint (r : ZeusSetPoint) (rest : Nat) :
    readZeusSetPoint.read (putZeusSetPoint r rest) = (r, rest) := by
  simp [readZeusSetPoint, putZeusSetPoint]

@[simp] theorem readZeusReport_putZeusReport (r : ZeusReport) (rest : Nat) :
    readZeusReport.read (putZeusReport r rest) = (r, rest) := by
  simp [readZeusReport, putZeusReport]

@[simp] theorem readZeusConfig_putZeusConfig (r : ZeusConfig) (rest : Nat) :
    readZeusConfig.read (putZeusConfig r rest) = (r, rest) := by
  simp [readZeusConfig, putZeusConfig]

@[simp] theorem readZeusStatus_putZeusStatus (r : ZeusStatus) (rest : Nat) :
    readZeusStatus.read (putZeusStatus r rest) = (r, rest) := by
  simp [readZeusStatus, putZeusStatus]

@[simp] theorem readZeusControlPoint_putZeusControlPoint (r : ZeusControlPoint) (rest : Nat) :
    readZeusControlPoint.read (putZeusControlPoint r rest) = (r, rest) := by
  simp [readZeusControlPoint, putZeusControlPoint]

@[simp] theorem readZeusDeltaTemperature_putZeusDeltaTemperature (r : ZeusDeltaTemperature) (rest : Nat) :
    readZeusDeltaTemperature.read (putZeusDeltaTemperature r rest) = (r, rest) := by
  simp [readZeusDeltaTemperature, putZeusDeltaTemperature]

@[simp] theorem readResetRequest_putResetRequest (r : ResetRequest) (rest : Nat) :
    readResetRequest.read (putResetRequest r rest) = (r, rest) := by
  simp [readResetRequest, putResetRequest]

@[simp] theorem readIdChangeRequest_putIdChangeRequest (r : IdChangeRequest) (rest : Nat) :
    readIdChangeRequest.read (putIdChangeRequest r rest) = (r, rest) := by
  simp [readIdChangeRequest, putIdChangeRequest]

@[simp] theorem readHeartbeatRequest_putHeartbeatRequest (r : HeartbeatRequest) (rest : Nat) :
    readHeartbeatRequest.read (putHeartbeatRequest r rest) = (r, rest) := by
  simp [readHeartbeatRequest, putHeartbeatRequest]

@[simp] theorem readMessageRequest_putMessageRequest (r : MessageRequest) (rest : Nat) :
    readMessageRequest.read (putMessageRequest r rest) = (r, rest) := by
  simp [readMessageRequest, putMessageRequest]

end Sys2Proof
end

