-- ==== Sys2Proof/Tests/Slice0.lean ====
section
/-! SUPPORT. The model's own tests: the ill-formed terms that each check of WellFormed refuses; a word of the opcode table
for every row and some whole request images, written out bit by bit; at most two small steps for an instruction, each with
the source of its expected response in spec/; and, for every obligation with hypotheses, a state and operands that meet
them. -/

namespace Sys2Proof.Tests

set_option Elab.async false

open Sys2Proof.Machine

/-! ### Helpers -/

/-- The state of an outcome that is one. -/
def stateOf (o : Host.Outcome State Fault Refusal) : Option State :=
  match o with
  | .next s => some s
  | .fault _ => none
  | .refused _ => none

/-- What a step that submits an instruction's image on port 0 leaves there, from a reset state. -/
def answerIn (cfg : Config) (i : Instr) : Option Port :=
  (stateOf (step { State.resetWith 2 cfg with pending := [.submit 0 (encode i)] })).bind fun t => t.ports[0]?

/-- The same in the default instance. -/
def answer (i : Instr) : Option Port := answerIn Config.default i

/-- A configuration with TRIGGER_MODE_LEN 4. -/
def cfgFour : Config := { Config.default with triggerModeLen := .four }

/-- The rest of an empty frame. -/
def noTail : FrameTail := ⟨0, 0, Payload.zero⟩

/-- ENCODE's operands with every bit 0. -/
def noOps : EncOps := ⟨false, 0, 0⟩

/-- An outcome whose state exists is a next state. -/
theorem next_of_stateOf {o : Host.Outcome State Fault Refusal} (h : (stateOf o).isSome = true) : ∃ t, o = .next t := by
  cases o with
  | next t => exact ⟨t, rfl⟩
  | fault _ => cases h
  | refused _ => cases h

/-! ### Well-formedness (30_encoding.md R130: the fallback rows match no other row's words) -/

theorem test_wf_refuses_registered_class_hp : (Instr.parseUnknownClassHp 0x38 1 noTail).wf = false := by decide

theorem test_wf_refuses_registered_class_std : (Instr.parseUnknownClassStd 0x2C 1 noTail).wf = false := by decide

theorem test_wf_refuses_table_tag : (Instr.encodeNotEncodable noOps 0x42 0).wf = false := by decide

theorem test_wf_accepts_fallbacks :
    (Instr.parseUnknownClassHp 0x3A 1 noTail).wf = true ∧ (Instr.parseUnknownClassStd 0 1 noTail).wf = true ∧
    (Instr.encodeNotEncodable noOps 0x43 0).wf = true := by decide

/-! ### Decoding the words of the opcode table

A FRAME row's word is its key, written as ext, rtr, type, class, node (30_encoding.md R94). -/

theorem test_decode_req_ops_1 :
    decodeTableWord 8 0b0000 = some (.parse ⟨0, false, false, 0, Payload.zero⟩) ∧
    decodeTableWord 8 0b0001 = some (.encode noOps 0 0) ∧
    decodeTableWord 8 0b0010 = some (.idEncode 0 0 0) ∧
    decodeTableWord 8 0b0011 = some (.idDecode 0) ∧
    decodeTableWord 8 0b0100 = some (.humToBin 0) ∧
    decodeTableWord 8 0b0101 = some (.binToHum 0) ∧
    decodeTableWord 8 0b0110 = some (.tempToBin 0) ∧
    decodeTableWord 8 0b0111 = some (.binToTemp 0) := by decide +kernel

theorem test_decode_req_ops_2 :
    decodeTableWord 8 0b1000 = some (.tmpToBin 0) ∧
    decodeTableWord 8 0b1001 = some (.binToTmp 0) := by decide +kernel

theorem test_decode_req_reserved :
    decodeTableWord 8 0b1010 = some (.reservedOpA 0) ∧
    decodeTableWord 8 0b1011 = some (.reservedOpB 0) ∧
    decodeTableWord 8 0b1100 = some (.reservedOpC 0) ∧
    decodeTableWord 8 0b1101 = some (.reservedOpD 0) ∧
    decodeTableWord 8 0b1110 = some (.reservedOpE 0) ∧
    decodeTableWord 8 0b1111 = some (.reservedOpF 0) := by decide +kernel

theorem test_decode_frame_rejects_and_polls :
    decodeTableWord 16 0b1_1_10_111000_001 = some (.parseExtendedReject true 2 0x38 1 noTail) ∧
    decodeTableWord 16 0b0_1_00_111000_101 = some (.parseRtrNetworkReject 0x38 5 noTail) ∧
    decodeTableWord 16 0b0_1_11_111000_101 = some (.parseRtrHeartbeatReject 0x38 5 noTail) ∧
    decodeTableWord 16 0b0_1_01_111000_101 = some (.parseRtrPollHp 0x38 5 noTail) ∧
    decodeTableWord 16 0b0_1_10_111000_101 = some (.parseRtrPollStd 0x38 5 noTail) := by decide +kernel

theorem test_decode_frame_network :
    decodeTableWord 16 0b0_0_00_010101_000 = some (.parseNetResetRequest 0x15 noTail) ∧
    decodeTableWord 16 0b0_0_00_010101_001 = some (.parseNetSynchronisationReserved 0x15 noTail) ∧
    decodeTableWord 16 0b0_0_00_010101_010 = some (.parseNetIdChangeRequest 0x15 noTail) ∧
    decodeTableWord 16 0b0_0_00_010101_011 = some (.parseNetErrorReport 0x15 noTail) ∧
    decodeTableWord 16 0b0_0_00_010101_100 = some (.parseNetNetcmd4Unknown 0x15 noTail) ∧
    decodeTableWord 16 0b0_0_00_010101_101 = some (.parseNetNetcmd5Unknown 0x15 noTail) ∧
    decodeTableWord 16 0b0_0_00_010101_110 = some (.parseNetNetcmd6Unknown 0x15 noTail) ∧
    decodeTableWord 16 0b0_0_00_010101_111 = some (.parseNetHeartbeatRequest 0x15 noTail) := by decide +kernel

theorem test_decode_frame_std_and_heartbeat_1 :
    decodeTableWord 16 0b0_0_11_111000_101 = some (.parseHeartbeat 0x38 5 noTail) ∧
    decodeTableWord 16 0b0_0_10_101100_110 = some (.parseNotusSetPointStd 6 noTail) ∧
    decodeTableWord 16 0b0_0_10_101101_110 = some (.parseNotusConfigStd 6 noTail) ∧
    decodeTableWord 16 0b0_0_10_110000_110 = some (.parseCelaenoSetPointStd 6 noTail) ∧
    decodeTableWord 16 0b0_0_10_110001_110 = some (.parseCelaenoStatusStd 6 noTail) ∧
    decodeTableWord 16 0b0_0_10_110010_110 = some (.parseCelaenoConfigStd 6 noTail) ∧
    decodeTableWord 16 0b0_0_10_110100_110 = some (.parseHeliosSetPointStd 6 noTail) ∧
    decodeTableWord 16 0b0_0_10_110101_110 = some (.parseHeliosPulseModeStd 6 noTail) := by decide +kernel

theorem test_decode_frame_std_and_heartbeat_2 :
    decodeTableWord 16 0b0_0_10_110110_110 = some (.parseHeliosTriggerModeStd 6 noTail) ∧
    decodeTableWord 16 0b0_0_10_111000_110 = some (.parseZeusSetPointStd 6 noTail) ∧
    decodeTableWord 16 0b0_0_10_111001_110 = some (.parseZeusReportStd 6 noTail) ∧
    decodeTableWord 16 0b0_0_10_111011_110 = some (.parseZeusConfigStd 6 noTail) ∧
    decodeTableWord 16 0b0_0_10_111100_110 = some (.parseZeusStatusStd 6 noTail) ∧
    decodeTableWord 16 0b0_0_10_111101_110 = some (.parseZeusControlPointStd 6 noTail) ∧
    decodeTableWord 16 0b0_0_10_111110_110 = some (.parseZeusDeltaTemperatureStd 6 noTail) ∧
    decodeTableWord 16 0b0_0_10_111010_101 = some (.parseUnknownClassStd 0x3A 5 noTail) := by decide +kernel

theorem test_decode_frame_hp_1 :
    decodeTableWord 16 0b0_0_01_101100_110 = some (.parseNotusSetPointHp 6 noTail) ∧
    decodeTableWord 16 0b0_0_01_101101_110 = some (.parseNotusConfigHp 6 noTail) ∧
    decodeTableWord 16 0b0_0_01_110000_110 = some (.parseCelaenoSetPointHp 6 noTail) ∧
    decodeTableWord 16 0b0_0_01_110001_110 = some (.parseCelaenoStatusHp 6 noTail) ∧
    decodeTableWord 16 0b0_0_01_110010_110 = some (.parseCelaenoConfigHp 6 noTail) ∧
    decodeTableWord 16 0b0_0_01_110100_110 = some (.parseHeliosSetPointHp 6 noTail) ∧
    decodeTableWord 16 0b0_0_01_110101_110 = some (.parseHeliosPulseModeHp 6 noTail) ∧
    decodeTableWord 16 0b0_0_01_110110_110 = some (.parseHeliosTriggerModeHp 6 noTail) := by decide +kernel

theorem test_decode_frame_hp_2 :
    decodeTableWord 16 0b0_0_01_111000_110 = some (.parseZeusSetPointHp 6 noTail) ∧
    decodeTableWord 16 0b0_0_01_111001_110 = some (.parseZeusReportHp 6 noTail) ∧
    decodeTableWord 16 0b0_0_01_111011_110 = some (.parseZeusConfigHp 6 noTail) ∧
    decodeTableWord 16 0b0_0_01_111100_110 = some (.parseZeusStatusHp 6 noTail) ∧
    decodeTableWord 16 0b0_0_01_111101_110 = some (.parseZeusControlPointHp 6 noTail) ∧
    decodeTableWord 16 0b0_0_01_111110_110 = some (.parseZeusDeltaTemperatureHp 6 noTail) ∧
    decodeTableWord 16 0b0_0_01_111010_101 = some (.parseUnknownClassHp 0x3A 5 noTail) := by decide +kernel

theorem test_decode_enc_device_1 :
    decodeTableWord 8 0b00101100 = some (.encodeNotusSetPoint noOps ⟨0⟩) ∧
    decodeTableWord 8 0b00101101 = some (.encodeNotusConfig noOps ⟨0, 0, 0⟩) ∧
    decodeTableWord 8 0b00110000 = some (.encodeCelaenoSetPoint noOps ⟨0⟩) ∧
    decodeTableWord 8 0b00110001 = some (.encodeCelaenoStatus noOps ⟨0, ⟨0, 0⟩⟩) ∧
    decodeTableWord 8 0b00110010 = some (.encodeCelaenoConfig noOps ⟨0, 0, 0, 0⟩) ∧
    decodeTableWord 8 0b00110100 = some (.encodeHeliosSetPoint noOps ⟨0, 0⟩) ∧
    decodeTableWord 8 0b00110101 = some (.encodeHeliosPulseMode noOps ⟨0⟩) ∧
    decodeTableWord 8 0b00110110 = some (.encodeHeliosTriggerMode noOps ⟨0, 0, 0⟩) := by decide +kernel

theorem test_decode_enc_device_2 :
    decodeTableWord 8 0b00111000 = some (.encodeZeusSetPoint noOps ⟨0, 0, 0⟩) ∧
    decodeTableWord 8 0b00111001 = some (.encodeZeusReport noOps ⟨0, 0, 0, 0, 0⟩) ∧
    decodeTableWord 8 0b00111011 = some (.encodeZeusConfig noOps ⟨⟨0, 0, 0, 0, 0⟩, ⟨0, 0, 0, 0, 0⟩⟩) ∧
    decodeTableWord 8 0b00111100 = some (.encodeZeusStatus noOps ⟨0, ⟨0, 0⟩, ⟨0, 0⟩, ⟨0, 0⟩⟩) ∧
    decodeTableWord 8 0b00111101 = some (.encodeZeusControlPoint noOps ⟨0, 0⟩) ∧
    decodeTableWord 8 0b00111110 = some (.encodeZeusDeltaTemperature noOps ⟨0, 0, 0, 0⟩) := by decide +kernel

theorem test_decode_enc_other :
    decodeTableWord 8 0b01000000 = some (.encodeResetRequest noOps ⟨0, 0⟩) ∧
    decodeTableWord 8 0b01000010 = some (.encodeIdChangeRequest noOps ⟨0, 0, 0⟩) ∧
    decodeTableWord 8 0b01000111 = some (.encodeHeartbeatRequest noOps ⟨0, 0⟩) ∧
    decodeTableWord 8 0b10000000 = some (.encodeMessageRequest noOps ⟨0, 0⟩) ∧
    decodeTableWord 8 0b10011001 = some (.encodeNotEncodable noOps 0x99 0) := by decide +kernel

/-! ### Whole request images (log entry 4), their fields laid out by hand in the order of R95 to R98 and R107 -/

/-- op 0x0, then id 0x5C1 (32 bits), ext, rtr, len 5 (4 bits), data (R97): program 1, step 3. -/
theorem test_image_parse :
    decode ⟨.req, [0x10, 0x5C, 0x00, 0x00, 0x40, 0x81, 0x6B, 0xD4, 0x64, 0xFC, 0x01] ++ List.replicate 13 0⟩
      = .ok (.parse ⟨0x5C1, false, false, 5, #v[0xE0, 0x1A, 0x35, 0x19, 0x7F, 0, 0, 0]⟩) := by rfl

/-- op 0x1, tag 0x42, hp, node 3, cap 8, then class 0x38 (6 bits), old 1, new 2 (R98, R125). -/
theorem test_image_encode :
    decode ⟨.req, [0x21, 0x74, 0x00, 0xF1, 0x00, 0x01] ++ List.replicate 18 0⟩
      = .ok (.encode ⟨true, 3, 8⟩ 0x42 (0x38 + 64 * 1 + 16384 * 2)) := by rfl

/-- op 0x2, then t, c, n (R99): R171's example. -/
theorem test_image_idEncode :
    decode ⟨.req, [0x22, 0x80, 0x13] ++ List.replicate 21 0⟩
      = .ok (.idEncode 2 0x38 1) := by rfl

/-- op 0x4, then the pattern of 42.0 (R100): R140's example. -/
theorem test_image_humToBin :
    decode ⟨.req, [0x04, 0x00, 0x80, 0x22, 0x04] ++ List.replicate 19 0⟩
      = .ok (.humToBin 0x42280000) := by rfl

/-- The key 0x5C1 (13 bits, R94), id[31:11], len 5, data. -/
theorem test_image_frameRow :
    decode ⟨.frame, [0xC1, 0xC5, 0x9B, 0x57, 0x17, 0xB8, 0x46, 0x4D, 0xC6, 0x1F] ++ List.replicate 14 0⟩
      = .ok (.parseZeusSetPointStd 1 ⟨0x1ABCDE, 5, #v[0xE0, 0x1A, 0x35, 0x19, 0x7F, 0, 0, 0]⟩) := by rfl

/-- The tag 0x31, hp, node 1, cap 8, then water level 1 and the fan record (R120): R269's example. -/
theorem test_image_encRow :
    decode ⟨.enc, [0x31, 0x02, 0x30, 0xA0, 0x0F] ++ List.replicate 19 0⟩
      = .ok (.encodeCelaenoStatus ⟨false, 1, 8⟩ ⟨1, ⟨0, 2000⟩⟩) := by rfl

/-- A set bit above the last operand and a wrong length are rejected by name. -/
theorem test_image_rejects :
    decode ⟨.req, [0x03, 0, 0, 0, 0xF0] ++ List.replicate 19 0⟩ = .error .trailingBits ∧
    decode ⟨.req, [0x03]⟩ = .error (.wrongLength 1) := ⟨rfl, rfl⟩

/-! ### Steps: the response that a Submit leaves, valid, on port 0 -/

/-- R224's example. -/
theorem test_parse :
    answer (.parse ⟨0x5C1, false, false, 5, #v[0xE0, 0x1A, 0x35, 0x19, 0x7F, 0x00, 0x00, 0x00]⟩)
      = some ⟨true, ⟨0x0, .parsed 0x38 1 2 0x38 1 (.zeusSetPoint ⟨0x4227FD40, 0x41C7F560, 0x7F⟩)⟩⟩ := by decide +kernel

/-- 95_test_vectors.md program 3, R304. -/
theorem test_parse_invalidHumidity :
    answer (.parse ⟨0xFFFFF5C1, false, false, 5, #v[0xFF, 0x3F, 0x00, 0x00, 0x00, 0x00, 0x00, 0x00]⟩)
      = some ⟨true, ⟨0x0, .err 2 true 0 0⟩⟩ := by decide +kernel

/-- R225's example. -/
theorem test_encode :
    answer (.encode ⟨false, 1, 8⟩ 0x38 0x7F41C8000042280000)
      = some ⟨true, ⟨0x1, .frame ⟨0x5C1, false, false, 5, #v[0xE0, 0x1A, 0x35, 0x19, 0x7F, 0x00, 0x00, 0x00]⟩⟩⟩ := by decide +kernel

/-- 95_test_vectors.md 2.6, R310. -/
theorem test_encode_capFirst :
    answer (.encode ⟨false, 0, 9⟩ 0x99 0x0)
      = some ⟨true, ⟨0x1, .err 8 false 3 0⟩⟩ := by decide +kernel

/-- R171's example. -/
theorem test_idEncode :
    answer (.idEncode 2 0x38 1)
      = some ⟨true, ⟨0x2, .ident 0x5C1⟩⟩ := by decide +kernel

/-- R171, corner cases. -/
theorem test_idEncode_overlap :
    answer (.idEncode 0xFF 0xFF 0xFF)
      = some ⟨true, ⟨0x2, .ident 0x1FFFF⟩⟩ := by decide +kernel

/-- R173's example. -/
theorem test_idDecode :
    answer (.idDecode 0xFFFFF5C1)
      = some ⟨true, ⟨0x3, .split 2 0x38 1⟩⟩ := by decide +kernel

/-- R140's example. -/
theorem test_humToBin :
    answer (.humToBin 0x42280000)
      = some ⟨true, ⟨0x4, .bin 0x1AE0⟩⟩ := by decide +kernel

/-- R140, corner cases. -/
theorem test_humToBin_negativeZero :
    answer (.humToBin 0x80000000)
      = some ⟨true, ⟨0x4, .bin 0⟩⟩ := by decide +kernel

/-- R141's example. -/
theorem test_binToHum :
    answer (.binToHum 0x3FFF)
      = some ⟨true, ⟨0x5, .float 0x7FC00000 true⟩⟩ := by decide +kernel

/-- R141, corner cases. -/
theorem test_binToHum_top :
    answer (.binToHum 0x3FFE)
      = some ⟨true, ⟨0x5, .float 0x42C80000 false⟩⟩ := by decide +kernel

/-- R142's example. -/
theorem test_tempToBin :
    answer (.tempToBin 0x41C80000)
      = some ⟨true, ⟨0x6, .bin 0x1935⟩⟩ := by decide +kernel

/-- R142, corner cases. -/
theorem test_tempToBin_zero :
    answer (.tempToBin 0x00000000)
      = some ⟨true, ⟨0x6, .bin 0xF83⟩⟩ := by decide +kernel

/-- R143's example. -/
theorem test_binToTemp :
    answer (.binToTemp 0x1935)
      = some ⟨true, ⟨0x7, .float 0x41C7F560 false⟩⟩ := by decide +kernel

/-- R143, corner cases. -/
theorem test_binToTemp_bottom :
    answer (.binToTemp 0)
      = some ⟨true, ⟨0x7, .float 0xC2200000 false⟩⟩ := by decide +kernel

/-- R144, corner cases. -/
theorem test_tmpToBin :
    answer (.tmpToBin 0xBD800000)
      = some ⟨true, ⟨0x8, .bin 0xFFF⟩⟩ := by decide +kernel

/-- R144, corner cases. -/
theorem test_tmpToBin_towardZero :
    answer (.tmpToBin 0xBCF5C28F)
      = some ⟨true, ⟨0x8, .bin 0⟩⟩ := by decide +kernel

/-- R145's example. -/
theorem test_binToTmp :
    answer (.binToTmp 0x800)
      = some ⟨true, ⟨0x9, .float 0xC3000000 false⟩⟩ := by decide +kernel

/-- R145, corner cases: 25.0625. -/
theorem test_binToTmp_highBits :
    answer (.binToTmp 0xF191)
      = some ⟨true, ⟨0x9, .float 0x41C88000 false⟩⟩ := by decide +kernel

/-- R96. -/
theorem test_reservedOpA :
    answer (.reservedOpA 1)
      = some ⟨true, ⟨0xA, .err 8 false 0 0⟩⟩ := by decide +kernel

/-- R96. -/
theorem test_reservedOpB :
    answer (.reservedOpB 1)
      = some ⟨true, ⟨0xB, .err 8 false 0 0⟩⟩ := by decide +kernel

/-- R96. -/
theorem test_reservedOpC :
    answer (.reservedOpC 1)
      = some ⟨true, ⟨0xC, .err 8 false 0 0⟩⟩ := by decide +kernel

/-- R96. -/
theorem test_reservedOpD :
    answer (.reservedOpD 1)
      = some ⟨true, ⟨0xD, .err 8 false 0 0⟩⟩ := by decide +kernel

/-- R96. -/
theorem test_reservedOpE :
    answer (.reservedOpE 1)
      = some ⟨true, ⟨0xE, .err 8 false 0 0⟩⟩ := by decide +kernel

/-- R96. -/
theorem test_reservedOpF :
    answer (.reservedOpF 1)
      = some ⟨true, ⟨0xF, .err 8 false 0 0⟩⟩ := by decide +kernel

/-- 95_test_vectors.md 2.6, R303. -/
theorem test_parseExtendedReject :
    answer (.parseExtendedReject false 2 0x38 1 ⟨0, 5, #v[0xE0, 0x1A, 0x35, 0x19, 0x7F, 0x00, 0x00, 0x00]⟩)
      = some ⟨true, ⟨0x0, .err 4 false 0 0⟩⟩ := by decide +kernel

/-- 95_test_vectors.md 2.6, R302: len before ext. -/
theorem test_parseExtendedReject_tooLong :
    answer (.parseExtendedReject false 2 0x38 1 ⟨0, 9, Payload.zero⟩)
      = some ⟨true, ⟨0x0, .err 8 false 2 0⟩⟩ := by decide +kernel

/-- R305. -/
theorem test_parseRtrNetworkReject :
    answer (.parseRtrNetworkReject 0x38 0 ⟨0, 0, #v[0x00, 0x00, 0x00, 0x00, 0x00, 0x00, 0x00, 0x00]⟩)
      = some ⟨true, ⟨0x0, .err 4 false 2 0⟩⟩ := by decide +kernel

/-- R305. -/
theorem test_parseRtrHeartbeatReject :
    answer (.parseRtrHeartbeatReject 0x38 1 ⟨0, 0, #v[0x00, 0x00, 0x00, 0x00, 0x00, 0x00, 0x00, 0x00]⟩)
      = some ⟨true, ⟨0x0, .err 4 false 2 0⟩⟩ := by decide +kernel

/-- R193: a high-priority poll decodes the same as a standard one. -/
theorem test_parseRtrPollHp :
    answer (.parseRtrPollHp 0x38 1 ⟨0, 0, #v[0x00, 0x00, 0x00, 0x00, 0x00, 0x00, 0x00, 0x00]⟩)
      = some ⟨true, ⟨0x0, .parsed 0x80 1 1 0x38 1 (.messageRequest ⟨0x38, 1⟩)⟩⟩ := by decide +kernel

/-- R193's example. -/
theorem test_parseRtrPollStd :
    answer (.parseRtrPollStd 0x38 1 ⟨0, 0, #v[0x00, 0x00, 0x00, 0x00, 0x00, 0x00, 0x00, 0x00]⟩)
      = some ⟨true, ⟨0x0, .parsed 0x80 1 2 0x38 1 (.messageRequest ⟨0x38, 1⟩)⟩⟩ := by decide +kernel

/-- R193's example. -/
theorem test_parseRtrPollStd_payload :
    answer (.parseRtrPollStd 0x38 1 ⟨0, 1, #v[0x00, 0x00, 0x00, 0x00, 0x00, 0x00, 0x00, 0x00]⟩)
      = some ⟨true, ⟨0x0, .err 4 false 1 0⟩⟩ := by decide +kernel

/-- R181's example. -/
theorem test_parseNetResetRequest :
    answer (.parseNetResetRequest 0x38 ⟨0, 1, #v[0x03, 0x00, 0x00, 0x00, 0x00, 0x00, 0x00, 0x00]⟩)
      = some ⟨true, ⟨0x0, .parsed 0x40 0 0 0x38 0 (.resetRequest ⟨0x38, 3⟩)⟩⟩ := by decide +kernel

/-- R183. -/
theorem test_parseNetSynchronisationReserved :
    answer (.parseNetSynchronisationReserved 0 ⟨0, 0, #v[0x00, 0x00, 0x00, 0x00, 0x00, 0x00, 0x00, 0x00]⟩)
      = some ⟨true, ⟨0x0, .err 6 false 1 0⟩⟩ := by decide +kernel

/-- R184's example. -/
theorem test_parseNetIdChangeRequest :
    answer (.parseNetIdChangeRequest 0x38 ⟨0, 2, #v[0x01, 0x02, 0x00, 0x00, 0x00, 0x00, 0x00, 0x00]⟩)
      = some ⟨true, ⟨0x0, .parsed 0x42 0 0 0x38 2 (.idChangeRequest ⟨0x38, 1, 2⟩)⟩⟩ := by decide +kernel

/-- R186's example. -/
theorem test_parseNetErrorReport :
    answer (.parseNetErrorReport 0x38 ⟨0, 4, #v[0x38, 0x01, 0x34, 0x12, 0x00, 0x00, 0x00, 0x00]⟩)
      = some ⟨true, ⟨0x0, .parsed 0x43 0 0 0x38 3 (.errorReport ⟨0x38, 1, 0x1234⟩)⟩⟩ := by decide +kernel

/-- R190. -/
theorem test_parseNetNetcmd4Unknown :
    answer (.parseNetNetcmd4Unknown 0 ⟨0, 0, #v[0x00, 0x00, 0x00, 0x00, 0x00, 0x00, 0x00, 0x00]⟩)
      = some ⟨true, ⟨0x0, .err 6 false 4 0⟩⟩ := by decide +kernel

/-- R190. -/
theorem test_parseNetNetcmd5Unknown :
    answer (.parseNetNetcmd5Unknown 0 ⟨0, 0, #v[0x00, 0x00, 0x00, 0x00, 0x00, 0x00, 0x00, 0x00]⟩)
      = some ⟨true, ⟨0x0, .err 6 false 5 0⟩⟩ := by decide +kernel

/-- R190. -/
theorem test_parseNetNetcmd6Unknown :
    answer (.parseNetNetcmd6Unknown 0 ⟨0, 0, #v[0x00, 0x00, 0x00, 0x00, 0x00, 0x00, 0x00, 0x00]⟩)
      = some ⟨true, ⟨0x0, .err 6 false 6 0⟩⟩ := by decide +kernel

/-- R188's example. -/
theorem test_parseNetHeartbeatRequest :
    answer (.parseNetHeartbeatRequest 0 ⟨0, 2, #v[0xE8, 0x03, 0x00, 0x00, 0x00, 0x00, 0x00, 0x00]⟩)
      = some ⟨true, ⟨0x0, .parsed 0x47 0 0 0 7 (.heartbeatRequest ⟨0, 0x3E8⟩)⟩⟩ := by decide +kernel

/-- R188. -/
theorem test_parseNetHeartbeatRequest_oneByte :
    answer (.parseNetHeartbeatRequest 0 ⟨0, 1, #v[0xE8, 0x00, 0x00, 0x00, 0x00, 0x00, 0x00, 0x00]⟩)
      = some ⟨true, ⟨0x0, .err 1 false 1 2⟩⟩ := by decide +kernel

/-- R191's example. -/
theorem test_parseHeartbeat :
    answer (.parseHeartbeat 0x38 1 ⟨0, 2, #v[0x01, 0x02, 0x00, 0x00, 0x00, 0x00, 0x00, 0x00]⟩)
      = some ⟨true, ⟨0x0, .parsed 0x48 1 3 0x38 1 (.heartbeat ⟨0x38, 1, 1, 2, 0, 0⟩)⟩⟩ := by decide +kernel

/-- R191, corner cases. -/
theorem test_parseHeartbeat_long :
    answer (.parseHeartbeat 0x38 1 ⟨0, 5, #v[0x01, 0x02, 0x03, 0x04, 0x05, 0x00, 0x00, 0x00]⟩)
      = some ⟨true, ⟨0x0, .parsed 0x48 1 3 0x38 1 (.heartbeat ⟨0x38, 1, 1, 2, 3, 4⟩)⟩⟩ := by decide +kernel

/-- R272's example as a high-priority frame, R321. -/
theorem test_parseNotusSetPointHp :
    answer (.parseNotusSetPointHp 1 ⟨0, 1, #v[0x40, 0x00, 0x00, 0x00, 0x00, 0x00, 0x00, 0x00]⟩)
      = some ⟨true, ⟨0x0, .parsed 0x2C 1 1 0x2C 1 (.notusSetPoint ⟨0x40⟩)⟩⟩ := by decide +kernel

/-- R274's example as a high-priority frame, R321. -/
theorem test_parseNotusConfigHp :
    answer (.parseNotusConfigHp 1 ⟨0, 4, #v[0xD0, 0x07, 0x32, 0xC8, 0x00, 0x00, 0x00, 0x00]⟩)
      = some ⟨true, ⟨0x0, .parsed 0x2D 1 1 0x2D 1 (.notusConfig ⟨0x7D0, 0x32, 0xC8⟩)⟩⟩ := by decide +kernel

/-- R266's example as a high-priority frame, R321. -/
theorem test_parseCelaenoSetPointHp :
    answer (.parseCelaenoSetPointHp 1 ⟨0, 1, #v[0x80, 0x00, 0x00, 0x00, 0x00, 0x00, 0x00, 0x00]⟩)
      = some ⟨true, ⟨0x0, .parsed 0x30 1 1 0x30 1 (.celaenoSetPoint ⟨0x80⟩)⟩⟩ := by decide +kernel

/-- R268's example as a high-priority frame, R321. -/
theorem test_parseCelaenoStatusHp :
    answer (.parseCelaenoStatusHp 1 ⟨0, 3, #v[0x01, 0xD0, 0x07, 0x00, 0x00, 0x00, 0x00, 0x00]⟩)
      = some ⟨true, ⟨0x0, .parsed 0x31 1 1 0x31 1 (.celaenoStatus ⟨1, ⟨0, 2000⟩⟩)⟩⟩ := by decide +kernel

/-- R270's example as a high-priority frame, R321. -/
theorem test_parseCelaenoConfigHp :
    answer (.parseCelaenoConfigHp 1 ⟨0, 8, #v[0xF4, 0x01, 0xAC, 0x0D, 0xE8, 0x03, 0xA0, 0x0F]⟩)
      = some ⟨true, ⟨0x0, .parsed 0x32 1 1 0x32 1 (.celaenoConfig ⟨0x1F4, 0xDAC, 0x3E8, 0xFA0⟩)⟩⟩ := by decide +kernel

/-- R260's example as a high-priority frame, R321. -/
theorem test_parseHeliosSetPointHp :
    answer (.parseHeliosSetPointHp 1 ⟨0, 2, #v[0xFF, 0x10, 0x00, 0x00, 0x00, 0x00, 0x00, 0x00]⟩)
      = some ⟨true, ⟨0x0, .parsed 0x34 1 1 0x34 1 (.heliosSetPoint ⟨0xFF, 0x10⟩)⟩⟩ := by decide +kernel

/-- R262's example as a high-priority frame, R321. -/
theorem test_parseHeliosPulseModeHp :
    answer (.parseHeliosPulseModeHp 1 ⟨0, 2, #v[0xF4, 0x01, 0x00, 0x00, 0x00, 0x00, 0x00, 0x00]⟩)
      = some ⟨true, ⟨0x0, .parsed 0x35 1 1 0x35 1 (.heliosPulseMode ⟨0x1F4⟩)⟩⟩ := by decide +kernel

/-- R264's example as a high-priority frame, R321. -/
theorem test_parseHeliosTriggerModeHp :
    answer (.parseHeliosTriggerModeHp 1 ⟨0, 6, #v[0xE8, 0x03, 0xDC, 0x05, 0x9C, 0xFF, 0x00, 0x00]⟩)
      = some ⟨true, ⟨0x0, .parsed 0x36 1 1 0x36 1 (.heliosTriggerMode ⟨0x3E8, 0x5DC, 0xFF9C⟩)⟩⟩ := by decide +kernel

/-- R224's example as a high-priority frame, R321. -/
theorem test_parseZeusSetPointHp :
    answer (.parseZeusSetPointHp 1 ⟨0, 5, #v[0xE0, 0x1A, 0x35, 0x19, 0x7F, 0x00, 0x00, 0x00]⟩)
      = some ⟨true, ⟨0x0, .parsed 0x38 1 1 0x38 1 (.zeusSetPoint ⟨0x4227FD40, 0x41C7F560, 0x7F⟩)⟩⟩ := by decide +kernel

/-- R226's example as a high-priority frame, R321. -/
theorem test_parseZeusReportHp :
    answer (.parseZeusReportHp 1 ⟨0, 8, #v[0xE0, 0x5A, 0x4D, 0x16, 0x19, 0xE8, 0x0F, 0x00]⟩)
      = some ⟨true, ⟨0x0, .parsed 0x39 1 1 0x39 1 (.zeusReport ⟨0x4227FD40, 0x41C7F560, 0x41C88000, 0xBFC00000, 0x00000000⟩)⟩⟩ := by decide +kernel

/-- R229's example as a high-priority frame, R321. -/
theorem test_parseZeusConfigHp :
    answer (.parseZeusConfigHp 1 ⟨0, 8, #v[0x0A, 0x14, 0x1E, 0x53, 0x01, 0x02, 0x03, 0x0F]⟩)
      = some ⟨true, ⟨0x0, .parsed 0x3B 1 1 0x3B 1 (.zeusConfig ⟨⟨10, 20, 30, 3, 5⟩, ⟨1, 2, 3, 15, 0⟩⟩)⟩⟩ := by decide +kernel

/-- R231's example as a high-priority frame, R321. -/
theorem test_parseZeusStatusHp :
    answer (.parseZeusStatusHp 1 ⟨0, 7, #v[0x01, 0xB0, 0x04, 0x00, 0x40, 0xFF, 0xBF, 0x00]⟩)
      = some ⟨true, ⟨0x0, .parsed 0x3C 1 1 0x3C 1 (.zeusStatus ⟨1, ⟨0, 1200⟩, ⟨1, 0⟩, ⟨2, 16383⟩⟩)⟩⟩ := by decide +kernel

/-- R233's example as a high-priority frame, R321. -/
theorem test_parseZeusControlPointHp :
    answer (.parseZeusControlPointHp 1 ⟨0, 4, #v[0xFF, 0xFF, 0x2C, 0x01, 0x00, 0x00, 0x00, 0x00]⟩)
      = some ⟨true, ⟨0x0, .parsed 0x3D 1 1 0x3D 1 (.zeusControlPoint ⟨0xFFFF, 0x12C⟩)⟩⟩ := by decide +kernel

/-- R235's example as a high-priority frame, R321. -/
theorem test_parseZeusDeltaTemperatureHp :
    answer (.parseZeusDeltaTemperatureHp 1 ⟨0, 8, #v[0x63, 0x00, 0xF8, 0xFF, 0x20, 0x00, 0x00, 0x00]⟩)
      = some ⟨true, ⟨0x0, .parsed 0x3E 1 1 0x3E 1 (.zeusDeltaTemperature ⟨0x3F7F43FA, 0xBF000000, 0x40000000, 0x00000000⟩)⟩⟩ := by decide +kernel

/-- 95_test_vectors.md 2.6, R308. -/
theorem test_parseUnknownClassHp :
    answer (.parseUnknownClassHp 0x3A 0 ⟨0, 1, #v[0x00, 0x00, 0x00, 0x00, 0x00, 0x00, 0x00, 0x00]⟩)
      = some ⟨true, ⟨0x0, .err 5 false 0x3A 0⟩⟩ := by decide +kernel

/-- R272's example. -/
theorem test_parseNotusSetPointStd :
    answer (.parseNotusSetPointStd 1 ⟨0, 1, #v[0x40, 0x00, 0x00, 0x00, 0x00, 0x00, 0x00, 0x00]⟩)
      = some ⟨true, ⟨0x0, .parsed 0x2C 1 2 0x2C 1 (.notusSetPoint ⟨0x40⟩)⟩⟩ := by decide +kernel

/-- R274's example. -/
theorem test_parseNotusConfigStd :
    answer (.parseNotusConfigStd 1 ⟨0, 4, #v[0xD0, 0x07, 0x32, 0xC8, 0x00, 0x00, 0x00, 0x00]⟩)
      = some ⟨true, ⟨0x0, .parsed 0x2D 1 2 0x2D 1 (.notusConfig ⟨0x7D0, 0x32, 0xC8⟩)⟩⟩ := by decide +kernel

/-- R266's example. -/
theorem test_parseCelaenoSetPointStd :
    answer (.parseCelaenoSetPointStd 1 ⟨0, 1, #v[0x80, 0x00, 0x00, 0x00, 0x00, 0x00, 0x00, 0x00]⟩)
      = some ⟨true, ⟨0x0, .parsed 0x30 1 2 0x30 1 (.celaenoSetPoint ⟨0x80⟩)⟩⟩ := by decide +kernel

/-- 95_test_vectors.md 2.5, R266. -/
theorem test_parseCelaenoSetPointStd_empty :
    answer (.parseCelaenoSetPointStd 1 ⟨0, 0, #v[0x00, 0x00, 0x00, 0x00, 0x00, 0x00, 0x00, 0x00]⟩)
      = some ⟨true, ⟨0x0, .err 1 true 0 1⟩⟩ := by decide +kernel

/-- R268's example. -/
theorem test_parseCelaenoStatusStd :
    answer (.parseCelaenoStatusStd 1 ⟨0, 3, #v[0x01, 0xD0, 0x07, 0x00, 0x00, 0x00, 0x00, 0x00]⟩)
      = some ⟨true, ⟨0x0, .parsed 0x31 1 2 0x31 1 (.celaenoStatus ⟨1, ⟨0, 2000⟩⟩)⟩⟩ := by decide +kernel

/-- R268, corner cases, and R222. -/
theorem test_parseCelaenoStatusStd_critical :
    answer (.parseCelaenoStatusStd 1 ⟨0, 3, #v[0x03, 0x64, 0x80, 0x00, 0x00, 0x00, 0x00, 0x00]⟩)
      = some ⟨true, ⟨0x0, .parsed 0x31 1 2 0x31 1 (.celaenoStatus ⟨2, ⟨2, 100⟩⟩)⟩⟩ := by decide +kernel

/-- R270's example. -/
theorem test_parseCelaenoConfigStd :
    answer (.parseCelaenoConfigStd 1 ⟨0, 8, #v[0xF4, 0x01, 0xAC, 0x0D, 0xE8, 0x03, 0xA0, 0x0F]⟩)
      = some ⟨true, ⟨0x0, .parsed 0x32 1 2 0x32 1 (.celaenoConfig ⟨0x1F4, 0xDAC, 0x3E8, 0xFA0⟩)⟩⟩ := by decide +kernel

/-- R260's example. -/
theorem test_parseHeliosSetPointStd :
    answer (.parseHeliosSetPointStd 1 ⟨0, 2, #v[0xFF, 0x10, 0x00, 0x00, 0x00, 0x00, 0x00, 0x00]⟩)
      = some ⟨true, ⟨0x0, .parsed 0x34 1 2 0x34 1 (.heliosSetPoint ⟨0xFF, 0x10⟩)⟩⟩ := by decide +kernel

/-- R262's example. -/
theorem test_parseHeliosPulseModeStd :
    answer (.parseHeliosPulseModeStd 1 ⟨0, 2, #v[0xF4, 0x01, 0x00, 0x00, 0x00, 0x00, 0x00, 0x00]⟩)
      = some ⟨true, ⟨0x0, .parsed 0x35 1 2 0x35 1 (.heliosPulseMode ⟨0x1F4⟩)⟩⟩ := by decide +kernel

/-- R264's example. -/
theorem test_parseHeliosTriggerModeStd :
    answer (.parseHeliosTriggerModeStd 1 ⟨0, 6, #v[0xE8, 0x03, 0xDC, 0x05, 0x9C, 0xFF, 0x00, 0x00]⟩)
      = some ⟨true, ⟨0x0, .parsed 0x36 1 2 0x36 1 (.heliosTriggerMode ⟨0x3E8, 0x5DC, 0xFF9C⟩)⟩⟩ := by decide +kernel

/-- R264, corner cases: TRIGGER_MODE_LEN 4. -/
theorem test_parseHeliosTriggerModeStd_four :
    answerIn cfgFour (.parseHeliosTriggerModeStd 1 ⟨0, 6, #v[0xE8, 0x03, 0xDC, 0x05, 0x9C, 0xFF, 0x00, 0x00]⟩)
      = some ⟨true, ⟨0x0, .parsed 0x36 1 2 0x36 1 (.heliosTriggerMode ⟨0x3E8, 0x5DC, 0⟩)⟩⟩ := by decide +kernel

/-- R224's example. -/
theorem test_parseZeusSetPointStd :
    answer (.parseZeusSetPointStd 1 ⟨0, 5, #v[0xE0, 0x1A, 0x35, 0x19, 0x7F, 0x00, 0x00, 0x00]⟩)
      = some ⟨true, ⟨0x0, .parsed 0x38 1 2 0x38 1 (.zeusSetPoint ⟨0x4227FD40, 0x41C7F560, 0x7F⟩)⟩⟩ := by decide +kernel

/-- R226's example. -/
theorem test_parseZeusReportStd :
    answer (.parseZeusReportStd 1 ⟨0, 8, #v[0xE0, 0x5A, 0x4D, 0x16, 0x19, 0xE8, 0x0F, 0x00]⟩)
      = some ⟨true, ⟨0x0, .parsed 0x39 1 2 0x39 1 (.zeusReport ⟨0x4227FD40, 0x41C7F560, 0x41C88000, 0xBFC00000, 0x00000000⟩)⟩⟩ := by decide +kernel

/-- R229's example. -/
theorem test_parseZeusConfigStd :
    answer (.parseZeusConfigStd 1 ⟨0, 8, #v[0x0A, 0x14, 0x1E, 0x53, 0x01, 0x02, 0x03, 0x0F]⟩)
      = some ⟨true, ⟨0x0, .parsed 0x3B 1 2 0x3B 1 (.zeusConfig ⟨⟨10, 20, 30, 3, 5⟩, ⟨1, 2, 3, 15, 0⟩⟩)⟩⟩ := by decide +kernel

/-- R231's example. -/
theorem test_parseZeusStatusStd :
    answer (.parseZeusStatusStd 1 ⟨0, 7, #v[0x01, 0xB0, 0x04, 0x00, 0x40, 0xFF, 0xBF, 0x00]⟩)
      = some ⟨true, ⟨0x0, .parsed 0x3C 1 2 0x3C 1 (.zeusStatus ⟨1, ⟨0, 1200⟩, ⟨1, 0⟩, ⟨2, 16383⟩⟩)⟩⟩ := by decide +kernel

/-- R233's example. -/
theorem test_parseZeusControlPointStd :
    answer (.parseZeusControlPointStd 1 ⟨0, 4, #v[0xFF, 0xFF, 0x2C, 0x01, 0x00, 0x00, 0x00, 0x00]⟩)
      = some ⟨true, ⟨0x0, .parsed 0x3D 1 2 0x3D 1 (.zeusControlPoint ⟨0xFFFF, 0x12C⟩)⟩⟩ := by decide +kernel

/-- R235's example. -/
theorem test_parseZeusDeltaTemperatureStd :
    answer (.parseZeusDeltaTemperatureStd 1 ⟨0, 8, #v[0x63, 0x00, 0xF8, 0xFF, 0x20, 0x00, 0x00, 0x00]⟩)
      = some ⟨true, ⟨0x0, .parsed 0x3E 1 2 0x3E 1 (.zeusDeltaTemperature ⟨0x3F7F43FA, 0xBF000000, 0x40000000, 0x00000000⟩)⟩⟩ := by decide +kernel

/-- 95_test_vectors.md 2.6, R308. -/
theorem test_parseUnknownClassStd :
    answer (.parseUnknownClassStd 0x3A 0 ⟨0, 1, #v[0x00, 0x00, 0x00, 0x00, 0x00, 0x00, 0x00, 0x00]⟩)
      = some ⟨true, ⟨0x0, .err 5 false 0x3A 0⟩⟩ := by decide +kernel

/-- R273's example. -/
theorem test_encodeNotusSetPoint :
    answer (.encodeNotusSetPoint ⟨false, 1, 8⟩ ⟨0x40⟩)
      = some ⟨true, ⟨0x1, .frame ⟨0x561, false, false, 1, #v[0x40, 0x00, 0x00, 0x00, 0x00, 0x00, 0x00, 0x00]⟩⟩⟩ := by decide +kernel

/-- R275's example. -/
theorem test_encodeNotusConfig :
    answer (.encodeNotusConfig ⟨false, 1, 8⟩ ⟨0x7D0, 0x32, 0xC8⟩)
      = some ⟨true, ⟨0x1, .frame ⟨0x569, false, false, 4, #v[0xD0, 0x07, 0x32, 0xC8, 0x00, 0x00, 0x00, 0x00]⟩⟩⟩ := by decide +kernel

/-- 95_test_vectors.md 2.5, R267. -/
theorem test_encodeCelaenoSetPoint :
    answer (.encodeCelaenoSetPoint ⟨true, 0, 8⟩ ⟨0xFF⟩)
      = some ⟨true, ⟨0x1, .frame ⟨0x380, false, false, 1, #v[0xFF, 0x00, 0x00, 0x00, 0x00, 0x00, 0x00, 0x00]⟩⟩⟩ := by decide +kernel

/-- R269 (and 95_test_vectors.md 2.5). -/
theorem test_encodeCelaenoStatus :
    answer (.encodeCelaenoStatus ⟨false, 1, 8⟩ ⟨3, ⟨2, 100⟩⟩)
      = some ⟨true, ⟨0x1, .frame ⟨0x589, false, false, 3, #v[0x04, 0x64, 0x80, 0x00, 0x00, 0x00, 0x00, 0x00]⟩⟩⟩ := by decide +kernel

/-- 95_test_vectors.md 2.5, R312. -/
theorem test_encodeCelaenoStatus_fanThree :
    answer (.encodeCelaenoStatus ⟨false, 0, 8⟩ ⟨0, ⟨3, 0⟩⟩)
      = some ⟨true, ⟨0x1, .err 8 false 4 1⟩⟩ := by decide +kernel

/-- R271's example. -/
theorem test_encodeCelaenoConfig :
    answer (.encodeCelaenoConfig ⟨false, 1, 8⟩ ⟨0x1F4, 0xDAC, 0x3E8, 0xFA0⟩)
      = some ⟨true, ⟨0x1, .frame ⟨0x591, false, false, 8, #v[0xF4, 0x01, 0xAC, 0x0D, 0xE8, 0x03, 0xA0, 0x0F]⟩⟩⟩ := by decide +kernel

/-- 95_test_vectors.md 2.5, R271. -/
theorem test_encodeCelaenoConfig_overflow :
    answer (.encodeCelaenoConfig ⟨false, 0, 8⟩ ⟨0, 0x10000, 0, 0x11170⟩)
      = some ⟨true, ⟨0x1, .err 3 false 1 0⟩⟩ := by decide +kernel

/-- R261's example. -/
theorem test_encodeHeliosSetPoint :
    answer (.encodeHeliosSetPoint ⟨false, 1, 8⟩ ⟨0xFF, 0x10⟩)
      = some ⟨true, ⟨0x1, .frame ⟨0x5A1, false, false, 2, #v[0xFF, 0x10, 0x00, 0x00, 0x00, 0x00, 0x00, 0x00]⟩⟩⟩ := by decide +kernel

/-- R263's example. -/
theorem test_encodeHeliosPulseMode :
    answer (.encodeHeliosPulseMode ⟨false, 1, 8⟩ ⟨0x1F4⟩)
      = some ⟨true, ⟨0x1, .frame ⟨0x5A9, false, false, 2, #v[0xF4, 0x01, 0x00, 0x00, 0x00, 0x00, 0x00, 0x00]⟩⟩⟩ := by decide +kernel

/-- R265's example. -/
theorem test_encodeHeliosTriggerMode :
    answer (.encodeHeliosTriggerMode ⟨false, 1, 8⟩ ⟨0x3E8, 0x5DC, 0xFF9C⟩)
      = some ⟨true, ⟨0x1, .frame ⟨0x5B1, false, false, 6, #v[0xE8, 0x03, 0xDC, 0x05, 0x9C, 0xFF, 0x00, 0x00]⟩⟩⟩ := by decide +kernel

/-- R225's example. -/
theorem test_encodeZeusSetPoint :
    answer (.encodeZeusSetPoint ⟨false, 1, 8⟩ ⟨0x42280000, 0x41C80000, 0x7F⟩)
      = some ⟨true, ⟨0x1, .frame ⟨0x5C1, false, false, 5, #v[0xE0, 0x1A, 0x35, 0x19, 0x7F, 0x00, 0x00, 0x00]⟩⟩⟩ := by decide +kernel

/-- R227's example. -/
theorem test_encodeZeusReport :
    answer (.encodeZeusReport ⟨false, 1, 8⟩ ⟨0x42280000, 0x41C80000, 0x41C88000, 0xBFC00000, 0x00000000⟩)
      = some ⟨true, ⟨0x1, .frame ⟨0x5C9, false, false, 8, #v[0xE0, 0x5A, 0x4D, 0x16, 0x19, 0xE8, 0x0F, 0x00]⟩⟩⟩ := by decide +kernel

/-- R230's example. -/
theorem test_encodeZeusConfig :
    answer (.encodeZeusConfig ⟨false, 1, 8⟩ ⟨⟨10, 20, 30, 3, 5⟩, ⟨1, 2, 3, 15, 0⟩⟩)
      = some ⟨true, ⟨0x1, .frame ⟨0x5D9, false, false, 8, #v[0x0A, 0x14, 0x1E, 0x53, 0x01, 0x02, 0x03, 0x0F]⟩⟩⟩ := by decide +kernel

/-- R230: the first divider over 15 in index order. -/
theorem test_encodeZeusConfig_overflow :
    answer (.encodeZeusConfig ⟨false, 1, 8⟩ ⟨⟨10, 20, 30, 3, 16⟩, ⟨1, 2, 3, 16, 0⟩⟩)
      = some ⟨true, ⟨0x1, .err 3 false 4 0⟩⟩ := by decide +kernel

/-- R232's example. -/
theorem test_encodeZeusStatus :
    answer (.encodeZeusStatus ⟨false, 1, 8⟩ ⟨1, ⟨0, 1200⟩, ⟨1, 0⟩, ⟨2, 16383⟩⟩)
      = some ⟨true, ⟨0x1, .frame ⟨0x5E1, false, false, 7, #v[0x01, 0xB0, 0x04, 0x00, 0x40, 0xFF, 0xBF, 0x00]⟩⟩⟩ := by decide +kernel

/-- R234's example. -/
theorem test_encodeZeusControlPoint :
    answer (.encodeZeusControlPoint ⟨false, 1, 8⟩ ⟨0xFFFF, 0x12C⟩)
      = some ⟨true, ⟨0x1, .frame ⟨0x5E9, false, false, 4, #v[0xFF, 0xFF, 0x2C, 0x01, 0x00, 0x00, 0x00, 0x00]⟩⟩⟩ := by decide +kernel

/-- R236's example. -/
theorem test_encodeZeusDeltaTemperature :
    answer (.encodeZeusDeltaTemperature ⟨false, 1, 8⟩ ⟨0x3F800000, 0xBF000000, 0x40000000, 0x00000000⟩)
      = some ⟨true, ⟨0x1, .frame ⟨0x5F1, false, false, 8, #v[0x63, 0x00, 0xF8, 0xFF, 0x20, 0x00, 0x00, 0x00]⟩⟩⟩ := by decide +kernel

/-- R236, corner cases. -/
theorem test_encodeZeusDeltaTemperature_saturates :
    answer (.encodeZeusDeltaTemperature ⟨false, 1, 8⟩ ⟨0x3F800000, 0x453B8000, 0x7FC00000, 0x00000000⟩)
      = some ⟨true, ⟨0x1, .frame ⟨0x5F1, false, false, 8, #v[0x63, 0x00, 0xFF, 0x7F, 0x00, 0x00, 0x00, 0x00]⟩⟩⟩ := by decide +kernel

/-- R182's example. -/
theorem test_encodeResetRequest :
    answer (.encodeResetRequest ⟨false, 0, 8⟩ ⟨0x38, 0⟩)
      = some ⟨true, ⟨0x1, .frame ⟨0x1C0, false, false, 1, #v[0x00, 0x00, 0x00, 0x00, 0x00, 0x00, 0x00, 0x00]⟩⟩⟩ := by decide +kernel

/-- R185's example. -/
theorem test_encodeIdChangeRequest :
    answer (.encodeIdChangeRequest ⟨false, 0, 8⟩ ⟨0x38, 1, 2⟩)
      = some ⟨true, ⟨0x1, .frame ⟨0x1C2, false, false, 2, #v[0x01, 0x02, 0x00, 0x00, 0x00, 0x00, 0x00, 0x00]⟩⟩⟩ := by decide +kernel

/-- 95_test_vectors.md program 3, R185. -/
theorem test_encodeIdChangeRequest_sameIds :
    answer (.encodeIdChangeRequest ⟨false, 0, 8⟩ ⟨0x38, 3, 3⟩)
      = some ⟨true, ⟨0x1, .err 7 false 3 3⟩⟩ := by decide +kernel

/-- R189's example. -/
theorem test_encodeHeartbeatRequest :
    answer (.encodeHeartbeatRequest ⟨false, 0, 8⟩ ⟨0, 0x3E8⟩)
      = some ⟨true, ⟨0x1, .frame ⟨7, false, false, 2, #v[0xE8, 0x03, 0x00, 0x00, 0x00, 0x00, 0x00, 0x00]⟩⟩⟩ := by decide +kernel

/-- R189's example. -/
theorem test_encodeHeartbeatRequest_ping :
    answer (.encodeHeartbeatRequest ⟨false, 0, 8⟩ ⟨0, 0⟩)
      = some ⟨true, ⟨0x1, .frame ⟨7, false, false, 0, #v[0x00, 0x00, 0x00, 0x00, 0x00, 0x00, 0x00, 0x00]⟩⟩⟩ := by decide +kernel

/-- R194's example. -/
theorem test_encodeMessageRequest :
    answer (.encodeMessageRequest ⟨false, 1, 8⟩ ⟨0x38, 0⟩)
      = some ⟨true, ⟨0x1, .frame ⟨0x5C1, false, true, 0, #v[0x00, 0x00, 0x00, 0x00, 0x00, 0x00, 0x00, 0x00]⟩⟩⟩ := by decide +kernel

/-- R313: before the class check of R194. -/
theorem test_encodeMessageRequest_nodeFirst :
    answer (.encodeMessageRequest ⟨false, 9, 8⟩ ⟨0x3A, 0⟩)
      = some ⟨true, ⟨0x1, .err 7 false 0 9⟩⟩ := by decide +kernel

/-- 95_test_vectors.md 2.6, R311. -/
theorem test_encodeNotEncodable :
    answer (.encodeNotEncodable ⟨false, 0, 8⟩ 0x99 0)
      = some ⟨true, ⟨0x1, .err 8 false 1 0⟩⟩ := by decide +kernel

/-- R300's example: port 1 holds the response, port 0 is as it was. -/
theorem test_submit_port_one :
    (stateOf (step { State.reset with pending := [.submit 1 (encode (.binToTmp 0x800))] })).map State.ports
      = some [Port.reset, ⟨true, ⟨0x9, .float 0xC3000000 false⟩⟩] := by decide +kernel

/-- 95_test_vectors.md program 5, step 2: a Read before the first Submit faults. -/
theorem test_read_before_submit :
    step { State.reset with pending := [.read 1] } = .fault (.responseNotValid 1) := rfl

/-- 95_test_vectors.md program 5: a Read of port 2 of two faults; R358: so does a Submit on it. -/
theorem test_port_past_the_last :
    step { State.reset with pending := [.read 2] } = .fault (.noSuchPort 2) ∧
    step { State.reset with pending := [.submit 2 (encode (.reservedOpA 0))] } = .fault (.noSuchPort 2) := ⟨rfl, rfl⟩

/-- R380: a Reset clears every valid bit. -/
theorem test_reset_action :
    (stateOf (step { State.reset.answered ⟨0x6, .bin 0x1935⟩ with pending := [.reset] })).map State.ports
      = some [Port.reset, Port.reset] := by decide

/-! ### Witnesses: for each obligation with hypotheses, a state and operands that meet them, each clause at a boundary

`s0` is the default instance after reset, `s4` has TRIGGER_MODE_LEN 4, `sNone` an empty DEV_CLASS_TABLE. -/

def s0 : State := State.reset
def s4 : State := State.resetWith 1 cfgFour
def sNone : State := State.resetWith 1 { Config.default with devTable := Vector.replicate 64 none }

/-- A tail with a length and the bytes 0 to 7. -/
def tailOf (len : BitVec 4) : FrameTail := ⟨0, len, #v[0, 1, 2, 3, 4, 5, 6, 7]⟩

/-- Also for the statements that ask only for an existing port: IdEncode, IdDecode, the reserved ops, PARSE as the row of its
key, high-priority frames. -/
theorem witness_ready : s0.portReady ∧ s4.portReady ∧ sNone.portReady := by decide

/-- NaN; an infinity; 0, 100.0 and the smallest positive pattern. -/
theorem witness_HumToBinAnswersTheFloor :
    s0.portReady ∧ f32IsNaN 0x7FC00000 = true ∧ f32IsInf 0xFF800000 = true ∧
    f32IsNaN 0x42C80000 = false ∧ f32IsInf 0x42C80000 = false ∧
    f32Num 0 ≤ 0 ∧ 100 * (f32Den : Int) ≤ f32Num 0x42C80000 ∧ 0 < f32Num 1 ∧ f32Num 1 < 100 * (f32Den : Int) := by
  decide +kernel

/-- -40.0, 125.0 and the pattern just above -40.0. -/
theorem witness_TempToBinAnswersTheFloor :
    s0.portReady ∧ f32IsNaN 0x7F800001 = true ∧ f32IsInf 0x7F800000 = true ∧
    f32IsNaN 0xC2200000 = false ∧ f32IsInf 0xC2200000 = false ∧
    f32Num 0xC2200000 ≤ -40 * (f32Den : Int) ∧ 125 * (f32Den : Int) ≤ f32Num 0x42FA0000 ∧
    -40 * (f32Den : Int) < f32Num 0xC21FFFFF ∧ f32Num 0xC21FFFFF < 125 * (f32Den : Int) := by
  decide +kernel

/-- 128.0, -128.0625, -0.0 and the pattern just above -128.0625. -/
theorem witness_TmpToBinTruncatesTowardZero :
    s0.portReady ∧ f32IsNaN 0xFFC00000 = true ∧ f32IsInf 0x7F800000 = true ∧
    f32IsNaN 0xC3001000 = false ∧ f32IsInf 0xC3001000 = false ∧
    2048 * (f32Den : Int) ≤ f32Num 0x43000000 * 16 ∧ f32Num 0xC3001000 * 16 ≤ -2049 * (f32Den : Int) ∧
    0 ≤ f32Num 0x80000000 * 16 ∧ f32Num 0x80000000 * 16 < 2048 * (f32Den : Int) ∧
    f32Num 0xC3000FFF * 16 < 0 ∧ -2049 * (f32Den : Int) < f32Num 0xC3000FFF * 16 := by
  decide +kernel

theorem witness_BinToHumAndTempRoundOnceOrAnswerTheSentinel :
    s0.portReady ∧ 16382 < (16383 : U16).toNat ∧ (16382 : U16).toNat ≤ 16382 := by decide

theorem witness_BinToTmpIsExact : s0.portReady ∧ ((0xF000 : U16).extractLsb' 0 12).toInt = 0 := by decide

/-- The largest integer below the bound, which rounds to the largest finite pattern (the bound itself does not); and a tie,
2^24 + 1 between 2^24 and 2^24 + 2. -/
theorem witness_RneIsTheClosestPattern :
    0 < 1 ∧ ((2 : Int) ^ 128 - 2 ^ 103 - 1).natAbs < 1 * (2 ^ 128 - 2 ^ 103) ∧
    ((0 : Int)).natAbs < 1 * (2 ^ 128 - 2 ^ 103) ∧ ((2 : Int) ^ 24 + 1).natAbs < 1 * (2 ^ 128 - 2 ^ 103) ∧
    rne32 (2 ^ 128 - 2 ^ 103 - 1) 1 = 0x7F7FFFFF ∧ f32IsInf (rne32 (2 ^ 128 - 2 ^ 103) 1) = true ∧
    f32IsNaN 0x4B800001 = false ∧ f32IsInf 0x4B800001 = false ∧
    (((2 : Int) ^ 24 + 1) * f32Den - f32Num (rne32 (2 ^ 24 + 1) 1) * 1).natAbs
      = (((2 : Int) ^ 24 + 1) * f32Den - f32Num 0x4B800001 * 1).natAbs ∧
    f32Num 0x4B800001 ≠ f32Num (rne32 (2 ^ 24 + 1) 1) := by
  decide +kernel

/-- NaN; an infinity; 2048.0, -2048.0625, 0 and -2048.0 for elements 1 to 3; the ends of a wide value for element 0. -/
theorem witness_DeltaScalesTruncateTowardZero :
    f32IsNaN 0x7FC00000 = true ∧ f32IsInf 0x7F800000 = true ∧
    f32IsNaN 0x45000000 = false ∧ f32IsInf 0x45000000 = false ∧
    32768 * (f32Den : Int) ≤ f32Num 0x45000000 * 16 ∧ f32Num 0xC5000100 * 16 ≤ -32769 * (f32Den : Int) ∧
    0 ≤ f32Num 0 * 16 ∧ f32Num 0 * 16 < 32768 * (f32Den : Int) ∧
    f32Num 0xC5000000 * 16 < 0 ∧ -32769 * (f32Den : Int) < f32Num 0xC5000000 * 16 ∧
    32768 * (165 * (f32Den : Int)) ≤ f32Num 0x45000000 * 16382 ∧
    f32Num 0xC5000000 * 16382 ≤ -32769 * (165 * (f32Den : Int)) ∧
    f32Num 0x3F800000 * 16382 < 32768 * (165 * (f32Den : Int)) ∧
    f32Num 0xBF800000 * 16382 < 0 ∧ -32769 * (165 * (f32Den : Int)) < f32Num 0xBF800000 * 16382 := by
  decide +kernel

/-- 99.99999 and the smallest positive pattern; the patterns next to -40.0 and 125.0; -128.0 and 127.9375. -/
theorem witness_RoundTripErrorStaysWithinTheBound :
    f32IsNaN 1 = false ∧ f32IsInf 1 = false ∧ 0 < f32Num 1 ∧ f32Num 0x42C7FFFF < 100 * (f32Den : Int) ∧
    0 < f32Num 0x42C7FFFF ∧ -40 * (f32Den : Int) < f32Num 0xC21FFFFF ∧ f32Num 0xC21FFFFF < 125 * (f32Den : Int) ∧
    f32Num 0x42F9FFFF < 125 * (f32Den : Int) ∧ -40 * (f32Den : Int) < f32Num 0x42F9FFFF ∧
    -128 * (f32Den : Int) ≤ f32Num 0xC3000000 ∧ f32Num 0xC3000000 * 16 ≤ 2047 * (f32Den : Int) ∧
    f32Num 0x42FFE000 * 16 ≤ 2047 * (f32Den : Int) := by
  decide +kernel

theorem witness_IdentifierLaws : (0x7FF : U32).toNat < 2048 ∧ (0 : U32).toNat < 2048 := by decide

theorem witness_HighIdentifierBitsAreIgnored :
    (0x800 : U32).extractLsb' 0 11 = (0 : U32).extractLsb' 0 11 ∧
    (0xFFFFFFFF : U32).extractLsb' 0 11 = (0x7FF : U32).extractLsb' 0 11 := by decide

/-- Lengths 8 and 9, an extended frame. -/
theorem witness_RejectedFrames :
    s0.portReady ∧ 8 < (9 : BitVec 4).toNat ∧ 8 < (tailOf 9).len.toNat ∧ (tailOf 8).len.toNat ≤ 8 ∧
    (Frame.mk 0 true false 8 Payload.zero).len.toNat ≤ 8 ∧ (Frame.mk 0 true false 8 Payload.zero).ext = true := by decide

theorem witness_UnknownNetworkCommands :
    s0.portReady ∧ (tailOf 8).len.toNat ≤ 8 ∧ 8 < (tailOf 9).len.toNat ∧ netRom 1 = none ∧ netRom 6 = none := by decide

theorem witness_PollsDecodeToMessageRequest :
    s0.portReady ∧ (tailOf 0).len.toNat = 0 ∧ (s0.cfg.devRom 0x2C).isSome = true ∧ 0 < (tailOf 1).len.toNat ∧
    (s0.cfg.devRom 0x3A).isNone = true := by decide

/-- Each length at the ends of its range; for the network rows and the heartbeat. -/
theorem witness_NetworkCommandsDecode :
    s0.portReady ∧ (tailOf 8).len.toNat ≤ 8 ∧ 1 ≤ (tailOf 1).len.toNat ∧ (tailOf 0).len.toNat < 1 ∧
    2 ≤ (tailOf 2).len.toNat ∧ (tailOf 1).len.toNat < 2 ∧ 4 ≤ (tailOf 4).len.toNat ∧ (tailOf 3).len.toNat < 4 := by decide

theorem witness_HeartbeatRequestsDecode :
    s0.portReady ∧ (tailOf 0).len.toNat = 0 ∧ (tailOf 1).len.toNat = 1 ∧ 2 ≤ (tailOf 2).len.toNat ∧
    (tailOf 2).len.toNat ≤ 8 := by decide

theorem witness_HeartbeatsDecodeByLength :
    s0.portReady ∧ (tailOf 0).len.toNat = 0 ∧ (tailOf 1).len.toNat = 1 ∧ (tailOf 2).len.toNat = 2 ∧
    (tailOf 3).len.toNat = 3 ∧ 4 ≤ (tailOf 4).len.toNat ∧ (tailOf 8).len.toNat ≤ 8 := by decide

theorem witness_NotusMessagesDecode :
    s0.portReady ∧ s0.cfg.devRom 0x2C = some .notusSetPoint ∧ s0.cfg.devRom 0x2D = some .notusConfig ∧
    1 ≤ (tailOf 1).len.toNat ∧ 4 ≤ (tailOf 4).len.toNat ∧ (tailOf 0).len.toNat < 1 ∧ (tailOf 3).len.toNat < 4 := by decide

theorem witness_CelaenoMessagesDecode :
    s0.portReady ∧ s0.cfg.devRom 0x30 = some .celaenoSetPoint ∧ s0.cfg.devRom 0x31 = some .celaenoStatus ∧
    s0.cfg.devRom 0x32 = some .celaenoConfig ∧ 1 ≤ (tailOf 1).len.toNat ∧ 3 ≤ (tailOf 3).len.toNat ∧
    8 ≤ (tailOf 8).len.toNat ∧ (tailOf 0).len.toNat < 1 ∧ (tailOf 2).len.toNat < 3 ∧ (tailOf 7).len.toNat < 8 := by decide

theorem witness_HeliosMessagesDecode :
    s0.portReady ∧ s4.portReady ∧ s0.cfg.devRom 0x34 = some .heliosSetPoint ∧
    s0.cfg.devRom 0x35 = some .heliosPulseMode ∧ s0.cfg.devRom 0x36 = some .heliosTriggerMode ∧
    s4.cfg.devRom 0x36 = some .heliosTriggerMode ∧ s0.cfg.triggerModeLen = .six ∧ s4.cfg.triggerModeLen = .four ∧
    2 ≤ (tailOf 2).len.toNat ∧ 6 ≤ (tailOf 6).len.toNat ∧ 4 ≤ (tailOf 4).len.toNat ∧ (tailOf 1).len.toNat < 2 ∧
    (tailOf 5).len.toNat < s0.cfg.triggerModeLen.bytes ∧ (tailOf 3).len.toNat < s4.cfg.triggerModeLen.bytes := by decide

theorem witness_ZeusIntegerMessagesDecode :
    s0.portReady ∧ s0.cfg.devRom 0x3B = some .zeusConfig ∧ s0.cfg.devRom 0x3C = some .zeusStatus ∧
    s0.cfg.devRom 0x3D = some .zeusControlPoint ∧ 8 ≤ (tailOf 8).len.toNat ∧ 7 ≤ (tailOf 7).len.toNat ∧
    4 ≤ (tailOf 4).len.toNat ∧ (tailOf 7).len.toNat < 8 ∧ (tailOf 6).len.toNat < 7 ∧ (tailOf 3).len.toNat < 4 := by decide

/-- Words 16382 and 16383, at bytes 0 and 1 and at bytes 2 and 3. -/
theorem witness_ZeusSetPointDecodes :
    s0.portReady ∧ s0.cfg.devRom 0x38 = some .zeusSetPoint ∧ 5 ≤ (tailOf 5).len.toNat ∧ (tailOf 4).len.toNat < 5 ∧
    ((0x3F : Byte) ++ (0xFE : Byte)).toNat ≤ 16382 ∧ 16382 < ((0x3F : Byte) ++ (0xFF : Byte)).toNat := by decide

/-- The fields 16382, 16382; 16383; 16382, 16383 of a report, in its 64-bit word. -/
theorem witness_ZeusReportDecodes :
    s0.portReady ∧ s0.cfg.devRom 0x39 = some .zeusReport ∧ (tailOf 8).len.toNat = 8 ∧ (tailOf 7).len.toNat < 8 ∧
    (0x12 : Byte) ++ (0x34 : Byte) ++ (0x56 : Byte) ++ (0x78 : Byte) ++ (0x9F : Byte) ++ (0xFF : Byte) ++ (0xBF : Byte)
        ++ (0xFE : Byte)
      = (0x123 : BitVec 12) ++ (0x456 : BitVec 12) ++ (0x789 : BitVec 12) ++ (16382 : BitVec 14) ++ (16382 : BitVec 14) ∧
    (0x12 : Byte) ++ (0x34 : Byte) ++ (0x56 : Byte) ++ (0x78 : Byte) ++ (0x9F : Byte) ++ (0xFF : Byte) ++ (0xFF : Byte)
        ++ (0xFE : Byte)
      = (0x123 : BitVec 12) ++ (0x456 : BitVec 12) ++ (0x789 : BitVec 12) ++ (16383 : BitVec 14) ++ (16382 : BitVec 14) ∧
    (0x12 : Byte) ++ (0x34 : Byte) ++ (0x56 : Byte) ++ (0x78 : Byte) ++ (0x90 : Byte) ++ (0x00 : Byte) ++ (0x3F : Byte)
        ++ (0xFF : Byte)
      = (0x123 : BitVec 12) ++ (0x456 : BitVec 12) ++ (0x789 : BitVec 12) ++ (0 : BitVec 14) ++ (16383 : BitVec 14) ∧
    (16382 : BitVec 14).toNat ≠ 16383 ∧ (16383 : BitVec 14).toNat = 16383 := by decide

theorem witness_ZeusDeltaTemperatureDecodes :
    s0.portReady ∧ s0.cfg.devRom 0x3E = some .zeusDeltaTemperature ∧ (tailOf 8).len.toNat = 8 ∧
    (tailOf 7).len.toNat < 8 := by decide

theorem witness_UnregisteredClassesAreUnknown :
    s0.portReady ∧ s0.cfg.devRom 0x3A = none ∧ sNone.portReady ∧ sNone.cfg.devRom 0x38 = none ∧
    (tailOf 8).len.toNat ≤ 8 := by decide

theorem witness_ShortDeviceFramesAreRefused :
    let f : Frame := ⟨0x3C1, false, false, 4, Payload.zero⟩
    s0.portReady ∧ f.ext = false ∧ f.rtr = false ∧ f.id.extractLsb' 9 2 = 1 ∧ (0x5C1 : U32).extractLsb' 9 2 = 2 ∧
    s0.cfg.devRom (f.id.extractLsb' 3 6) = some .zeusSetPoint ∧
    f.len.toNat < DevKind.payloadLen s0.cfg.triggerModeLen .zeusSetPoint := by decide

/-- Two buffers that agree below length 2 and differ at byte 2. -/
theorem witness_ParseIgnoresBytesPastTheLength :
    ∀ k : Nat, k < (2 : BitVec 4).toNat →
      Payload.byte #v[1, 2, 3, 0, 0, 0, 0, 0] k = Payload.byte #v[1, 2, 4, 0, 0, 0, 0, 0] k := by decide

theorem witness_MalformedEncodesAreRefused :
    s0.portReady ∧ 8 < (9 : BitVec 4).toNat ∧ (8 : BitVec 4).toNat ≤ 8 ∧
    ((0x3A : Byte) ≠ 0x40 ∧ (0x3A : Byte) ≠ 0x42 ∧ (0x3A : Byte) ≠ 0x47 ∧ (0x3A : Byte) ≠ 0x80 ∧
      ((0x3A : Byte).toNat < 64 → s0.cfg.devRom ((0x3A : Byte).setWidth 6) = none)) ∧
    ((0x43 : Byte) ≠ 0x40 ∧ (0x43 : Byte) ≠ 0x42 ∧ (0x43 : Byte) ≠ 0x47 ∧ (0x43 : Byte) ≠ 0x80 ∧
      ((0x43 : Byte).toNat < 64 → s0.cfg.devRom ((0x43 : Byte).setWidth 6) = none)) := by decide

theorem witness_EncodeIsTheRowOfItsTag :
    s0.portReady ∧ s0.cfg.devTable = Config.default.devTable ∧ s4.portReady ∧
    s4.cfg.devTable = Config.default.devTable := by decide

/-- Node 7 and 8; each capacity at the message's length and one below. -/
theorem witness_NotusMessagesEncode :
    s0.portReady ∧ (8 : BitVec 4).toNat ≤ 8 ∧ (7 : Byte).toNat ≤ 7 ∧ 7 < (8 : Byte).toNat ∧
    s0.cfg.devRom 0x2C = some .notusSetPoint ∧ s0.cfg.devRom 0x2D = some .notusConfig ∧
    1 ≤ (1 : BitVec 4).toNat ∧ (0 : BitVec 4).toNat < 1 ∧ 4 ≤ (4 : BitVec 4).toNat ∧ (3 : BitVec 4).toNat < 4 := by decide

theorem witness_CelaenoMessagesEncode :
    s0.portReady ∧ (7 : Byte).toNat ≤ 7 ∧ 7 < (8 : Byte).toNat ∧ s0.cfg.devRom 0x30 = some .celaenoSetPoint ∧
    s0.cfg.devRom 0x31 = some .celaenoStatus ∧ s0.cfg.devRom 0x32 = some .celaenoConfig ∧
    (CelaenoStatus.mk 3 ⟨2, 16383⟩).fan.fstatus ≠ 3 ∧ (CelaenoStatus.mk 0 ⟨3, 0⟩).fan.fstatus = 3 ∧
    3 ≤ (3 : BitVec 4).toNat ∧ (2 : BitVec 4).toNat < 3 ∧ 8 ≤ (8 : BitVec 4).toNat ∧ (7 : BitVec 4).toNat < 8 := by decide

theorem witness_HeliosMessagesEncode :
    s0.portReady ∧ s4.portReady ∧ s0.cfg.devRom 0x34 = some .heliosSetPoint ∧
    s0.cfg.devRom 0x35 = some .heliosPulseMode ∧ s0.cfg.devRom 0x36 = some .heliosTriggerMode ∧
    s4.cfg.devRom 0x36 = some .heliosTriggerMode ∧ s0.cfg.triggerModeLen = .six ∧ s4.cfg.triggerModeLen = .four ∧
    2 ≤ (2 : BitVec 4).toNat ∧ 6 ≤ (6 : BitVec 4).toNat ∧ 4 ≤ (4 : BitVec 4).toNat ∧
    (5 : BitVec 4).toNat < s0.cfg.triggerModeLen.bytes ∧ (3 : BitVec 4).toNat < s4.cfg.triggerModeLen.bytes ∧
    (7 : Byte).toNat ≤ 7 ∧ 7 < (8 : Byte).toNat := by decide

/-- Dividers of 15; a fan status of 3 in each place. -/
theorem witness_ZeusIntegerMessagesEncode :
    s0.portReady ∧ s0.cfg.devRom 0x3B = some .zeusConfig ∧ s0.cfg.devRom 0x3C = some .zeusStatus ∧
    s0.cfg.devRom 0x3D = some .zeusControlPoint ∧ (15 : Byte).toNat ≤ 15 ∧ (2 : BitVec 2) ≠ 3 ∧ (3 : BitVec 2) = 3 ∧
    7 ≤ (7 : BitVec 4).toNat ∧ (6 : BitVec 4).toNat < 7 ∧ (7 : Byte).toNat ≤ 7 ∧ 7 < (8 : Byte).toNat := by decide

theorem witness_ZeusFixedPointMessagesEncode :
    s0.portReady ∧ s0.cfg.devRom 0x38 = some .zeusSetPoint ∧ s0.cfg.devRom 0x39 = some .zeusReport ∧
    s0.cfg.devRom 0x3E = some .zeusDeltaTemperature ∧ 5 ≤ (5 : BitVec 4).toNat ∧ (4 : BitVec 4).toNat < 5 ∧
    (8 : BitVec 4).toNat = 8 ∧ (7 : BitVec 4).toNat < 8 ∧ (7 : Byte).toNat ≤ 7 ∧ 7 < (8 : Byte).toNat := by decide

theorem witness_NetworkCommandsEncode :
    s0.portReady ∧ 1 ≤ (1 : BitVec 4).toNat ∧ (0 : BitVec 4).toNat < 1 ∧ (7 : Byte).toNat ≤ 7 ∧ 7 < (8 : Byte).toNat ∧
    2 ≤ (2 : BitVec 4).toNat ∧ (1 : BitVec 4).toNat < 2 ∧ (6 : Byte) ≠ 0 ∧ (7 : Byte) ≠ 0 ∧ (6 : Byte) ≠ 7 ∧
    (0xFFFF : U16) ≠ 0 ∧ (1 : U32) ≠ 0 ∧ 65535 < (65536 : U32).toNat := by decide

theorem witness_PollsEncode :
    s0.portReady ∧ (0 : BitVec 4).toNat ≤ 8 ∧ (7 : Byte).toNat ≤ 7 ∧ 7 < (8 : Byte).toNat ∧
    (s0.cfg.devRom 0x3E).isSome = true ∧ (s0.cfg.devRom 0x3F).isNone = true := by decide

/-- The records 0, 1; 1, 0; 9, 9; 8, 7; 7, 8; 7, 6. -/
theorem witness_ArgumentChecksComeFirst :
    s0.portReady ∧ (1 : BitVec 4).toNat < 2 ∧ (1 : Byte) ≠ 0 ∧ (9 : Byte) ≠ 0 ∧ (8 : Byte) ≠ 7 ∧ 7 < (8 : Byte).toNat ∧
    (7 : Byte) ≠ 8 ∧ (7 : Byte).toNat ≤ 7 ∧ (7 : Byte) ≠ 6 ∧ (6 : Byte).toNat ≤ 7 := by decide

/-- A message without a fan status, and the two with one (their records all zeros, so of fan status 0), one byte short. -/
theorem witness_NodeThenLengthChecks :
    s0.portReady ∧ (8 : BitVec 4).toNat ≤ 8 ∧ 7 < (8 : Byte).toNat ∧ (7 : Byte).toNat ≤ 7 ∧
    s0.cfg.devRom ((0x2C : Byte).setWidth 6) = some .notusSetPoint ∧
    DevKind.notusSetPoint ≠ .zeusStatus ∧ DevKind.notusSetPoint ≠ .celaenoStatus ∧
    s0.cfg.devRom ((0x3C : Byte).setWidth 6) = some .zeusStatus ∧ (0x3C : Byte).toNat < 64 ∧
    (let r := (readZeusStatus.read (0 : RawRecord).toNat).1
     r.fan0.fstatus ≠ 3 ∧ r.fan1.fstatus ≠ 3 ∧ r.fan2.fstatus ≠ 3) ∧
    s0.cfg.devRom ((0x31 : Byte).setWidth 6) = some .celaenoStatus ∧
    (readCelaenoStatus.read (0 : RawRecord).toNat).1.fan.fstatus ≠ 3 ∧
    (0 : BitVec 4).toNat < DevKind.payloadLen s0.cfg.triggerModeLen .notusSetPoint ∧
    (6 : BitVec 4).toNat < DevKind.payloadLen s0.cfg.triggerModeLen .zeusStatus ∧
    (2 : BitVec 4).toNat < DevKind.payloadLen s0.cfg.triggerModeLen .celaenoStatus := by decide

/-- Fields 0 and 3 over the limit, the ones before at it. -/
theorem witness_RangeOverflowNamesTheFirstField :
    s0.portReady ∧ s0.cfg.devRom 0x32 = some .celaenoConfig ∧ s0.cfg.devRom 0x3B = some .zeusConfig ∧
    (8 : BitVec 4).toNat = 8 ∧ (7 : Byte).toNat ≤ 7 ∧
    65535 < (#v[65535, 65535, 65535, 65536][(3 : Fin 4)] : U32).toNat ∧
    (∀ j : Fin 4, j < 3 → (#v[65535, 65535, 65535, 65536][j] : U32).toNat ≤ 65535) ∧
    65535 < (#v[65536, 0, 0, 0][(0 : Fin 4)] : U32).toNat ∧
    15 < (#v[15, 15, 15, 16][(3 : Fin 4)] : Byte).toNat ∧
    (∀ j : Fin 4, j < 3 → (#v[15, 15, 15, 16][j] : Byte).toNat ≤ 15) := by decide

theorem witness_FanWordsRoundTrip : (Fan.mk 2 16383).fstatus ≠ 3 := by decide

/-- Each capacity at the message's length, and 8; fan statuses, durations and dividers at their largest legal values. -/
theorem witness_IntegerDeviceMessagesParseBack :
    s0.portReady ∧ s4.portReady ∧ (8 : BitVec 4).toNat ≤ 8 ∧ (7 : Byte).toNat ≤ 7 ∧
    s0.cfg.devRom 0x2C = some .notusSetPoint ∧ 1 ≤ (1 : BitVec 4).toNat ∧
    s0.cfg.devRom 0x2D = some .notusConfig ∧ 4 ≤ (4 : BitVec 4).toNat ∧
    s0.cfg.devRom 0x30 = some .celaenoSetPoint ∧ s0.cfg.devRom 0x31 = some .celaenoStatus ∧
    3 ≤ (3 : BitVec 4).toNat ∧ (Fan.mk 2 16383).fstatus ≠ 3 ∧
    s0.cfg.devRom 0x32 = some .celaenoConfig ∧ 8 ≤ (8 : BitVec 4).toNat ∧ (65535 : U32).toNat ≤ 65535 ∧
    s0.cfg.devRom 0x34 = some .heliosSetPoint ∧ s0.cfg.devRom 0x35 = some .heliosPulseMode ∧ 2 ≤ (2 : BitVec 4).toNat ∧
    s0.cfg.devRom 0x36 = some .heliosTriggerMode ∧ s0.cfg.triggerModeLen.bytes ≤ (6 : BitVec 4).toNat ∧
    s4.cfg.devRom 0x36 = some .heliosTriggerMode ∧ s4.cfg.triggerModeLen.bytes ≤ (4 : BitVec 4).toNat ∧
    s0.cfg.devRom 0x3B = some .zeusConfig ∧ (15 : Byte).toNat ≤ 15 ∧
    s0.cfg.devRom 0x3C = some .zeusStatus ∧ 7 ≤ (7 : BitVec 4).toNat ∧
    s0.cfg.devRom 0x3D = some .zeusControlPoint := by decide

theorem witness_FixedPointDeviceMessagesParseBack :
    s0.portReady ∧ (8 : BitVec 4).toNat ≤ 8 ∧ (7 : Byte).toNat ≤ 7 ∧
    s0.cfg.devRom 0x38 = some .zeusSetPoint ∧ 5 ≤ (5 : BitVec 4).toNat ∧ s0.cfg.devRom 0x39 = some .zeusReport ∧
    s0.cfg.devRom 0x3E = some .zeusDeltaTemperature ∧ 8 ≤ (8 : BitVec 4).toNat := by decide

/-- Each capacity at the message's length: a heartbeat request with the period 0 takes capacity 0, another one 2. -/
theorem witness_NetworkMessagesParseBack :
    s0.portReady ∧ (8 : BitVec 4).toNat ≤ 8 ∧ 1 ≤ (1 : BitVec 4).toNat ∧ (7 : Byte).toNat ≤ 7 ∧
    2 ≤ (2 : BitVec 4).toNat ∧ (7 : Byte) ≠ 0 ∧ (6 : Byte) ≠ 0 ∧ (7 : Byte) ≠ 6 ∧ (6 : Byte).toNat ≤ 7 ∧
    (if (0 : U32) = 0 then 0 else 2) ≤ (0 : BitVec 4).toNat ∧ (if (65535 : U32) = 0 then 0 else 2) ≤ (2 : BitVec 4).toNat ∧
    (65535 : U32).toNat ≤ 65535 ∧ (s0.cfg.devRom 0x38).isSome = true := by decide

/-- The last port of two, and the first number past it. -/
theorem witness_SubmitChangesOnlyItsPort :
    ({ s0 with curPort := 1 } : State).portReady ∧ ¬ ({ s0 with curPort := 2 } : State).portReady ∧ (0 : Nat) ≠ 1 := by
  decide

theorem witness_ResponseDependsOnlyOnTheRequest : s0.cfg = Config.default ∧ s0.portReady := by decide

theorem witness_SubmitsOnDifferentPortsCommute : (0 : Nat) ≠ 1 ∧ 0 < s0.ports.length ∧ 1 < s0.ports.length := by decide

theorem witness_EveryResponseIsLegal : ∃ t, exec (.reservedOpF 0) s0 = .next t := ⟨_, rfl⟩

theorem witness_StepRunsTheDecodedInstruction :
    (s0.withFetchWord 8 0x0F).pending = .submit 0 (tableImage 8 0x0F) :: [] ∧
    decode (tableImage 8 0x0F) = .ok (.reservedOpF 0) := ⟨rfl, rfl⟩

/-- A list with a Read of a valid port, of a port that is not, of a port past the last one; a Reset; no action. -/
theorem witness_HostActionsReadAndReset :
    s0.pending = [] ∧ ({ s0 with pending := [.read 2] } : State).pending = .read 2 :: [] ∧ s0.ports.length ≤ 2 ∧
    s0.ports[1]? = some ⟨false, Response.unspecified⟩ ∧
    (s0.answered ⟨0x9, .float 0xC3000000 false⟩).ports[0]? = some ⟨true, ⟨0x9, .float 0xC3000000 false⟩⟩ ∧
    ({ s0 with pending := [.reset] } : State).pending = .reset :: [] := by decide

/-- A step that completes, from a state with the invariant, whose valid port stays valid. -/
theorem witness_StepKeepsTheInvariant :
    let s := { s0.answered ⟨0x9, .float 0xC3000000 false⟩ with pending := [.read 0] }
    s.Inv ∧ s.pending.head? ≠ some .reset ∧ s.ports[0]? = some ⟨true, ⟨0x9, .float 0xC3000000 false⟩⟩ ∧
    (stateOf (step s)).isSome = true := by decide

/-- The same state's step, as the statements about a next state have it (`StepKeepsTheInstance` among them). -/
theorem witness_StepKeepsTheInstance :
    ∃ t, step { s0.answered ⟨0x9, .float 0xC3000000 false⟩ with pending := [.read 0] } = .next t :=
  next_of_stateOf (by decide)

theorem witness_ResetMeetsTheInvariant : 0 < 1 := by decide

theorem witness_DecodeReadsBackEveryInstruction :
    (Instr.parseUnknownClassHp 0x3A 7 noTail).wf = true ∧ (Instr.encodeNotEncodable noOps 0xFF 0).wf = true := by decide

theorem witness_EncodeWritesBackEveryImage : decode (encode (.idEncode 0xFF 0xFF 0xFF)) = .ok (.idEncode 0xFF 0xFF 0xFF) :=
  rfl

end Sys2Proof.Tests
end

section
/-! SUPPORT. `rne32` is the closest binary32 value (00_scope.md R16). Every finite value is a whole number of units of 2^-149
with at most 24 significant bits; rounding to a multiple of `2^t` units is closest among the multiples, and where it keeps
24 bits no value between the multiples comes closer. -/

namespace Sys2Proof.Machine

/-! ### Rounding to an integer, ties to even -/

/-- The rounded quotient is at most half the divisor away, and even where it is exactly half. -/
theorem roundHalfEven_halfway {x D : ℕ} (hD : 0 < D) :
    2 * ((x : ℤ) - roundHalfEven x D * D).natAbs ≤ D ∧
    (2 * ((x : ℤ) - roundHalfEven x D * D).natAbs = D → roundHalfEven x D % 2 = 0) := by
  have hx : D * (x / D) + x % D = x := Nat.div_add_mod x D
  have hr : x % D < D := Nat.mod_lt x hD
  have hlow : (x : ℤ) - ((x / D : ℕ) : ℤ) * D = (x % D : ℕ) := by
    rw [mul_comm]; exact_mod_cast (by omega : (x : ℤ) - (D * (x / D) : ℕ) = (x % D : ℕ))
  have hhigh : (x : ℤ) - ((x / D + 1 : ℕ) : ℤ) * D = (x % D : ℕ) - D := by
    rw [← hlow]; push_cast; ring
  unfold roundHalfEven
  split_ifs with hbelow habove
  · rw [hlow]; omega
  · rw [hhigh]; omega
  · rcases Nat.mod_two_eq_zero_or_one (x / D) with heven | hodd
    · rw [heven, Nat.add_zero, hlow]; omega
    · rw [hodd, hhigh]; omega

/-- No multiple of the divisor is closer than the rounded one, and one as close makes the rounded quotient even. -/
theorem roundHalfEven_nearest {x D : ℕ} (hD : 0 < D) (k : ℤ) :
    ((x : ℤ) - roundHalfEven x D * D).natAbs ≤ ((x : ℤ) - k * D).natAbs ∧
    (((x : ℤ) - roundHalfEven x D * D).natAbs = ((x : ℤ) - k * D).natAbs → k ≠ roundHalfEven x D →
      roundHalfEven x D % 2 = 0) := by
  obtain ⟨hhalf, heven⟩ := roundHalfEven_halfway (x := x) hD
  rcases eq_or_ne k (roundHalfEven x D) with rfl | hk
  · exact ⟨le_rfl, fun _ h => absurd rfl h⟩
  have hapart : D ≤ ((roundHalfEven x D - k) * (D : ℤ)).natAbs := by
    rw [Int.natAbs_mul, Int.natAbs_natCast]
    exact Nat.le_mul_of_pos_left D (Int.natAbs_pos.2 (sub_ne_zero.2 hk.symm))
  rw [sub_mul] at hapart
  exact ⟨by omega, fun h _ => heven (by omega)⟩

/-- A quotient more than a half below `k` is rounded below `k`. -/
theorem roundHalfEven_lt {x D k : ℕ} (hD : 0 < D) (h : 2 * x + D < 2 * (k * D)) : roundHalfEven x D < k := by
  have hhalf := (roundHalfEven_halfway (x := x) hD).1
  by_contra hge
  have hmul := Nat.mul_le_mul_right D (not_lt.1 hge)
  zify at hmul h
  omega

/-- The rounded quotient is the floor or the integer after it. -/
theorem roundHalfEven_bounds (x D : ℕ) : x / D ≤ roundHalfEven x D ∧ roundHalfEven x D ≤ x / D + 1 := by
  unfold roundHalfEven
  split_ifs <;> omega

/-! ### The last place of a rational -/

/-- The exponent of the last place of `x / d`: the least that leaves at most 24 bits. -/
def lastPlace (x d : ℕ) : ℕ := Nat.log2 (x / d) - 23

/-- The mantissa that `x / d` rounds to, counted in its last place. -/
def roundedMantissa (x d : ℕ) : ℕ := roundHalfEven x (d * 2 ^ lastPlace x d)

theorem rneMagnitude_eq (a d : ℕ) : rneMagnitude a d =
    min 0x7F800000 (lastPlace (a * 2 ^ 149) d * 2 ^ 23 + roundedMantissa (a * 2 ^ 149) d) := rfl

theorem div_lt_lastPlace (x d : ℕ) : x / d < 2 ^ 24 * 2 ^ lastPlace x d := by
  rw [← pow_add]
  exact Nat.lt_log2_self.trans_le (Nat.pow_le_pow_right (by norm_num) (by unfold lastPlace; omega))

theorem lastPlace_le_div {x d : ℕ} (h : lastPlace x d ≠ 0) : 2 ^ 23 * 2 ^ lastPlace x d ≤ x / d := by
  have hne : x / d ≠ 0 := fun h0 => h (by simp [lastPlace, h0])
  rw [← pow_add]
  exact (Nat.pow_le_pow_right (by norm_num) (by unfold lastPlace at *; omega)).trans (Nat.log2_self_le hne)

/-- A mantissa has at most 24 bits, or is 2^24 after a carry. -/
theorem roundedMantissa_le (x d : ℕ) : roundedMantissa x d ≤ 2 ^ 24 := by
  refine (roundHalfEven_bounds _ _).2.trans (Nat.succ_le_of_lt ?_)
  rw [← Nat.div_div_eq_div_mul]
  exact Nat.div_lt_of_lt_mul (by rw [mul_comm]; exact div_lt_lastPlace x d)

/-- A mantissa has all its 24 bits unless the last place is the lowest of the format. -/
theorem le_roundedMantissa {x d : ℕ} (h : lastPlace x d ≠ 0) : 2 ^ 23 ≤ roundedMantissa x d := by
  refine le_trans ?_ (roundHalfEven_bounds _ _).1
  rw [← Nat.div_div_eq_div_mul]
  exact (Nat.le_div_iff_mul_le (by positivity)).2 (lastPlace_le_div h)

/-! ### Values of at most 24 significant bits -/

/-- The integers a 24-bit mantissa can hold: a multiple of `2^t` from `2^(23 + t)` on. -/
def AtMost24Bits (z : ℤ) : Prop := ∀ t : ℕ, (2 : ℤ) ^ t ∣ z ∨ z.natAbs < 2 ^ 23 * 2 ^ t

theorem AtMost24Bits.neg {z : ℤ} (h : AtMost24Bits z) : AtMost24Bits (-z) := fun t => by
  rw [dvd_neg, Int.natAbs_neg]; exact h t

theorem atMost24Bits_mul_two_pow {m : ℕ} (hm : m < 2 ^ 24) (e : ℕ) : AtMost24Bits ((m * 2 ^ e : ℕ) : ℤ) := by
  intro t
  rcases le_or_gt t e with hte | het
  · left
    exact_mod_cast (pow_dvd_pow 2 hte).mul_left m
  · right
    calc m * 2 ^ e < 2 ^ 24 * 2 ^ e := Nat.mul_lt_mul_of_pos_right hm (by positivity)
      _ = 2 ^ 23 * 2 ^ (e + 1) := by ring
      _ ≤ 2 ^ 23 * 2 ^ t := Nat.mul_le_mul_left _ (Nat.pow_le_pow_right (by norm_num) het)

/-- No value of at most 24 bits is closer to `x / d` than the rounded mantissa in its last place, and another one as close
makes that mantissa even. A value between the multiples of the last place lies below the binade of `x / d`, whose lower end
is a multiple and strictly closer. -/
theorem roundedMantissa_nearest {x d : ℕ} (hd : 0 < d) {z : ℤ} (hz : AtMost24Bits z) :
    ((x : ℤ) - (roundedMantissa x d * 2 ^ lastPlace x d : ℕ) * d).natAbs ≤ ((x : ℤ) - z * d).natAbs ∧
    (((x : ℤ) - (roundedMantissa x d * 2 ^ lastPlace x d : ℕ) * d).natAbs = ((x : ℤ) - z * d).natAbs →
      z ≠ (roundedMantissa x d * 2 ^ lastPlace x d : ℕ) → roundedMantissa x d % 2 = 0) := by
  have hD : 0 < d * 2 ^ lastPlace x d := by positivity
  have hcast (k : ℤ) : k * 2 ^ lastPlace x d * d = k * (d * 2 ^ lastPlace x d : ℕ) := by push_cast; ring
  have hnear := fun k => roundHalfEven_nearest (x := x) hD k
  rw [← roundedMantissa] at hnear
  rw [Nat.cast_mul, Nat.cast_pow, Nat.cast_ofNat, hcast]
  by_cases hdvd : (2 : ℤ) ^ lastPlace x d ∣ z
  · obtain ⟨k, rfl⟩ := hdvd
    rw [mul_comm _ k, hcast]
    exact ⟨(hnear k).1, fun h hne => (hnear k).2 h fun hk => hne (by rw [hk])⟩
  · have hshort := (hz (lastPlace x d)).resolve_left hdvd
    have hpos : lastPlace x d ≠ 0 := fun h0 => hdvd (by simp [h0])
    have hend : ((2 ^ 23 * 2 ^ lastPlace x d : ℕ) : ℤ) * d ≤ x := by
      exact_mod_cast (Nat.le_div_iff_mul_le hd).1 (lastPlace_le_div hpos)
    have hbelow : z * d < ((2 ^ 23 * 2 ^ lastPlace x d : ℕ) : ℤ) * d :=
      mul_lt_mul_of_pos_right (by omega) (by exact_mod_cast hd)
    have hle := (hnear (2 ^ 23)).1
    have hcastEnd : (2 : ℤ) ^ 23 * (d * 2 ^ lastPlace x d : ℕ) = (2 ^ 23 * 2 ^ lastPlace x d : ℕ) * d := by
      push_cast; ring
    rw [hcastEnd] at hle
    exact ⟨by omega, fun h => absurd h (by omega)⟩

/-! ### Patterns as whole numbers of 2^-149 -/

/-- The value of a finite pattern's magnitude bits, in units of 2^-149. -/
def magnitudeUnits (m : ℕ) : ℕ :=
  if m / 2 ^ 23 = 0 then m % 2 ^ 23 else (2 ^ 23 + m % 2 ^ 23) * 2 ^ (m / 2 ^ 23 - 1)

theorem f32Exponent_eq (f : F32) : f32Exponent f = f.toNat % 2 ^ 31 / 2 ^ 23 := by
  simp only [f32Exponent, BitVec.extractLsb'_toNat, Nat.shiftRight_eq_div_pow]; omega

theorem f32Fraction_eq (f : F32) : f32Fraction f = f.toNat % 2 ^ 31 % 2 ^ 23 := by
  simp only [f32Fraction, BitVec.extractLsb'_toNat, Nat.shiftRight_eq_div_pow]; omega

theorem f32Negative_eq (f : F32) : f32Negative f = decide (2 ^ 31 ≤ f.toNat) := by
  have hf := f.isLt
  rw [f32Negative, BitVec.getLsbD, Nat.testBit_eq_decide_div_mod_eq]
  exact decide_eq_decide.2 (by omega)

theorem f32Num_eq (f : F32) :
    f32Num f = if f32Negative f then -(2 * (magnitudeUnits (f.toNat % 2 ^ 31) : ℤ))
      else 2 * (magnitudeUnits (f.toNat % 2 ^ 31) : ℤ) := by
  have hmag : (if f32Exponent f = 0 then f32Fraction f * 2 else (2 ^ 23 + f32Fraction f) * 2 ^ f32Exponent f)
      = 2 * magnitudeUnits (f.toNat % 2 ^ 31) := by
    rw [magnitudeUnits, ← f32Exponent_eq, ← f32Fraction_eq]
    split_ifs with h
    · ring
    · rw [← Nat.two_pow_pred_mul_two (Nat.pos_of_ne_zero h)]; ring
  rw [f32Num, hmag]
  push_cast
  rfl

/-- A pattern is finite where its magnitude bits lie below those of the infinities. -/
theorem f32_finite_of_lt {f : F32} (h : f.toNat % 2 ^ 31 < 0x7F800000) : f32IsNaN f = false ∧ f32IsInf f = false := by
  have hexp : f32Exponent f ≠ 255 := by rw [f32Exponent_eq]; omega
  simp [f32IsNaN, f32IsInf, hexp]

theorem atMost24Bits_magnitudeUnits (m : ℕ) : AtMost24Bits (magnitudeUnits m) := by
  unfold magnitudeUnits
  split_ifs
  · simpa only [pow_zero, mul_one] using atMost24Bits_mul_two_pow (m := m % 2 ^ 23) (by omega) 0
  · exact atMost24Bits_mul_two_pow (by omega) _

/-- Every pattern's value is a whole number of units of 2^-149 with at most 24 significant bits. -/
theorem f32Num_atMost24Bits (f : F32) : ∃ z : ℤ, f32Num f = 2 * z ∧ AtMost24Bits z := by
  rw [f32Num_eq]
  split_ifs
  · exact ⟨-magnitudeUnits _, by ring, (atMost24Bits_magnitudeUnits _).neg⟩
  · exact ⟨magnitudeUnits _, rfl, atMost24Bits_magnitudeUnits _⟩

/-- A last place and a mantissa, added as the exponent field and the bits below it, are the pattern of their product; a
mantissa of 2^24 carries into the exponent. -/
theorem magnitudeUnits_add {t r : ℕ} (hlow : t ≠ 0 → 2 ^ 23 ≤ r) (hhigh : r ≤ 2 ^ 24) :
    magnitudeUnits (t * 2 ^ 23 + r) = r * 2 ^ t := by
  have hsplit : r < 2 ^ 23 ∨ (2 ^ 23 ≤ r ∧ r < 2 ^ 24) ∨ r = 2 ^ 24 := by omega
  unfold magnitudeUnits
  rcases hsplit with hsub | ⟨hge, hlt⟩ | rfl
  · have ht : t = 0 := by omega
    subst ht
    rw [if_pos (by omega), pow_zero]; omega
  · rw [if_neg (by omega), show (t * 2 ^ 23 + r) / 2 ^ 23 - 1 = t by omega,
      show 2 ^ 23 + (t * 2 ^ 23 + r) % 2 ^ 23 = r by omega]
  · rw [if_neg (by omega), show (t * 2 ^ 23 + 2 ^ 24) / 2 ^ 23 - 1 = t + 1 by omega,
      show (t * 2 ^ 23 + 2 ^ 24) % 2 ^ 23 = 0 by omega, pow_succ]
    ring

/-! ### `rne32` below 2^128 - 2^103 -/

/-- Below 2^128 the last place is at most that of the largest finite pattern. -/
theorem lastPlace_le {a d : ℕ} (hd : 0 < d) (ha : a < d * 2 ^ 128) : lastPlace (a * 2 ^ 149) d ≤ 253 := by
  by_contra hbig
  have hle := lastPlace_le_div (x := a * 2 ^ 149) (d := d) (by omega)
  have hdiv : a * 2 ^ 149 / d < 2 ^ 128 * 2 ^ 149 := by
    rw [Nat.div_lt_iff_lt_mul hd, mul_right_comm, mul_comm _ d]
    exact Nat.mul_lt_mul_of_pos_right ha (by positivity)
  have hpow : 2 ^ (23 + lastPlace (a * 2 ^ 149) d) < 2 ^ (128 + 149) := by
    rw [pow_add, pow_add]; exact hle.trans_lt hdiv
  exact absurd ((Nat.pow_lt_pow_iff_right (by decide)).1 hpow) (by omega)

/-- Below the bound the rounded magnitude stays under the infinity: in the last place of the largest finite pattern the
mantissa does not carry. -/
theorem rneMagnitude_of_lt {a d : ℕ} (ha : a < d * (2 ^ 128 - 2 ^ 103)) :
    rneMagnitude a d = lastPlace (a * 2 ^ 149) d * 2 ^ 23 + roundedMantissa (a * 2 ^ 149) d ∧
    rneMagnitude a d < 0x7F800000 := by
  have hd : 0 < d := Nat.pos_of_mul_pos_right (Nat.zero_lt_of_lt ha)
  have hplace := lastPlace_le hd (ha.trans_le (Nat.mul_le_mul_left d (Nat.sub_le _ _)))
  have hmant := roundedMantissa_le (a * 2 ^ 149) d
  have htop : lastPlace (a * 2 ^ 149) d = 253 → roundedMantissa (a * 2 ^ 149) d < 2 ^ 24 := by
    intro h253
    rw [roundedMantissa, h253]
    exact roundHalfEven_lt (by positivity) (by omega)
  rw [rneMagnitude_eq]
  omega

theorem rneMagnitude_zero (d : ℕ) : rneMagnitude 0 d = 0 := by
  simp [rneMagnitude_eq, roundedMantissa, lastPlace, roundHalfEven]

/-- The sign that `rne32` puts before the rounded magnitude of `n / d`. -/
def roundingSign (n : ℤ) : ℤ := if n < 0 then -1 else 1

theorem roundingSign_cases (n : ℤ) : roundingSign n = 1 ∨ roundingSign n = -1 := by
  unfold roundingSign; split_ifs <;> simp

theorem roundingSign_mul_natAbs (n : ℤ) : roundingSign n * n.natAbs = n := by
  unfold roundingSign; split_ifs <;> omega

/-- The pattern is the rounded magnitude under the sign bit; for 0 too, whose magnitude bits are 0. -/
theorem toNat_rne32 (n : ℤ) (d : ℕ) :
    (rne32 n d).toNat = (if n < 0 then 2 ^ 31 else 0) + rneMagnitude n.natAbs d := by
  have hmag : rneMagnitude n.natAbs d ≤ 0x7F800000 := min_le_left _ _
  unfold rne32
  split_ifs with hzero hneg hneg
  · omega
  · simp [hzero, rneMagnitude_zero]
  · rw [BitVec.toNat_ofNat]; omega
  · rw [BitVec.toNat_ofNat]; omega

/-- The value `rne32` answers: the rounded mantissa in its last place, with the sign of the rational (R16). -/
theorem f32Num_rne32 {n : ℤ} {d : ℕ} (h : n.natAbs < d * (2 ^ 128 - 2 ^ 103)) :
    f32Num (rne32 n d) = roundingSign n *
      (2 * (roundedMantissa (n.natAbs * 2 ^ 149) d * 2 ^ lastPlace (n.natAbs * 2 ^ 149) d : ℕ)) := by
  obtain ⟨hmag, hlt⟩ := rneMagnitude_of_lt h
  have hbits := toNat_rne32 n d
  have hunits : (rne32 n d).toNat % 2 ^ 31 = rneMagnitude n.natAbs d := by split_ifs at hbits <;> omega
  rw [f32Num_eq, hunits, hmag, magnitudeUnits_add le_roundedMantissa (roundedMantissa_le _ _), f32Negative_eq,
    roundingSign]
  split_ifs at hbits with hneg
  · rw [if_pos (decide_eq_true (by omega)), if_pos hneg, neg_one_mul]
  · rw [if_neg (by rw [decide_eq_true_eq]; omega), if_neg hneg, one_mul]

/-- Below the bound the answer is finite. -/
theorem rne32_finite {n : ℤ} {d : ℕ} (h : n.natAbs < d * (2 ^ 128 - 2 ^ 103)) :
    f32IsNaN (rne32 n d) = false ∧ f32IsInf (rne32 n d) = false := by
  have hlt := (rneMagnitude_of_lt h).2
  have hbits := toNat_rne32 n d
  refine f32_finite_of_lt ?_
  split_ifs at hbits <;> omega

/-- The lowest bit of the answer is that of the rounded mantissa. -/
theorem rne32_getLsbD_zero {n : ℤ} {d : ℕ} (h : n.natAbs < d * (2 ^ 128 - 2 ^ 103))
    (heven : roundedMantissa (n.natAbs * 2 ^ 149) d % 2 = 0) : (rne32 n d).getLsbD 0 = false := by
  have hmag := (rneMagnitude_of_lt h).1
  have hbits := toNat_rne32 n d
  rw [BitVec.getLsbD, Nat.testBit_zero]
  refine decide_eq_false ?_
  split_ifs at hbits <;> omega

/-- The distance, over the common denominator, from `n / d` to a value of `u` units carrying the sign of `n`. -/
theorem natAbs_distance (n u : ℤ) (d : ℕ) :
    (n * f32Den - roundingSign n * (2 * u) * d).natAbs = 2 * (((n.natAbs * 2 ^ 149 : ℕ) : ℤ) - u * d).natAbs := by
  have hfactor : n * f32Den - roundingSign n * (2 * u) * d
      = roundingSign n * (2 * (((n.natAbs * 2 ^ 149 : ℕ) : ℤ) - u * d)) := by
    have hsign := roundingSign_mul_natAbs n
    rw [f32Den]
    push_cast at hsign ⊢
    linear_combination -(2 : ℤ) ^ 150 * hsign
  rw [hfactor, Int.natAbs_mul, Int.natAbs_mul]
  rcases roundingSign_cases n with hs | hs <;> simp [hs]

/-- Every pattern's value carries the sign of `n` before a whole number of units of at most 24 bits, itself signed. -/
theorem f32Num_eq_roundingSign_mul (f : F32) (n : ℤ) :
    ∃ u : ℤ, f32Num f = roundingSign n * (2 * u) ∧ AtMost24Bits u := by
  obtain ⟨z, hz, h24⟩ := f32Num_atMost24Bits f
  rcases roundingSign_cases n with hs | hs
  · exact ⟨z, by rw [hz, hs, one_mul], h24⟩
  · exact ⟨-z, by rw [hz, hs]; ring, h24.neg⟩

end Sys2Proof.Machine
end

section
/-! PROOF. The statement of 00_scope.md R16. -/

namespace Sys2Proof.Proofs
open Sys2Proof.Machine

/-- Settles O6: both distances, with the sign of `n` taken out, are those of `roundedMantissa_nearest`. -/
theorem rneIsTheClosestPattern : Obligations.RneIsTheClosestPattern := by
  intro n d hd hn
  obtain ⟨hnan, hinf⟩ := rne32_finite hn
  refine ⟨fun h0 => if_pos h0, hnan, hinf, fun h _ _ => ?_⟩
  obtain ⟨u, hu, h24⟩ := f32Num_eq_roundingSign_mul h n
  obtain ⟨hle, heven⟩ := roundedMantissa_nearest (x := n.natAbs * 2 ^ 149) hd h24
  rw [hu, f32Num_rne32 hn, natAbs_distance, natAbs_distance]
  refine ⟨Nat.mul_le_mul_left 2 hle, fun htie hne => rne32_getLsbD_zero hn (heven (by omega) ?_)⟩
  rintro rfl
  exact hne rfl

end Sys2Proof.Proofs
end

section
/-! SUPPORT. The parts of every encoder make a frame that 30_encoding.md R104 allows: at most 8 bytes, and every byte of
`data_out` past them 0. -/

namespace Sys2Proof.Machine

/-! ### The bytes past the length -/

/-- Every byte of a buffer from `m` on is 0. -/
def ZeroFrom (d : Payload) (m : Nat) : Prop := ∀ k < 8, m ≤ k → d.byte k = 0

theorem zeroFrom_zero (m : Nat) : ZeroFrom .zero m := by
  have hbytes : ∀ k < 8, Payload.zero.byte k = 0 := by decide
  exact fun k hk _ => hbytes k hk

/-- A buffer has eight bytes. -/
theorem zeroFrom_eight (d : Payload) : ZeroFrom d 8 := fun _ hk h8 => absurd h8 (not_le.2 hk)

theorem ZeroFrom.memWrite {d : Payload} {m k n v : Nat} (h : ZeroFrom d m) (hkn : k + n ≤ m := by decide) :
    ZeroFrom (memWrite d k n v) m := fun j hj hmj => by
  rw [byte_memWrite_other d k n v j hj (.inr (hkn.trans hmj))]
  exact h j hj hmj

/-! ### Parts that fit a frame -/

/-- What makes the frame of some parts a legal one. -/
structure Parts.Fits (p : Parts) : Prop where
  len_le : p.len ≤ 8
  payload_zeroFrom : ZeroFrom p.payload p.len

/-- The same with the length written out. -/
theorem Parts.Fits.of_len {p : Parts} (len : Nat) (h : p.len = len) (hzero : ZeroFrom p.payload len)
    (hle : len ≤ 8 := by decide) : p.Fits := ⟨h ▸ hle, h ▸ hzero⟩

theorem partsNotusSetPoint_fits (o : EncOps) (c : BitVec 6) (r : NotusSetPoint) : (partsNotusSetPoint o c r).Fits :=
  .of_len 1 rfl (zeroFrom_zero 1).memWrite

theorem partsNotusConfig_fits (o : EncOps) (c : BitVec 6) (r : NotusConfig) : (partsNotusConfig o c r).Fits :=
  .of_len 4 rfl (zeroFrom_zero 4).memWrite.memWrite.memWrite

theorem partsCelaenoSetPoint_fits (o : EncOps) (c : BitVec 6) (r : CelaenoSetPoint) :
    (partsCelaenoSetPoint o c r).Fits :=
  .of_len 1 rfl (zeroFrom_zero 1).memWrite

theorem partsCelaenoStatus_fits (o : EncOps) (c : BitVec 6) (r : CelaenoStatus) : (partsCelaenoStatus o c r).Fits :=
  .of_len 3 rfl (zeroFrom_zero 3).memWrite.memWrite

theorem partsCelaenoConfig_fits (o : EncOps) (c : BitVec 6) (r : CelaenoConfig) : (partsCelaenoConfig o c r).Fits :=
  .of_len 8 rfl (zeroFrom_eight _)

theorem partsHeliosSetPoint_fits (o : EncOps) (c : BitVec 6) (r : HeliosSetPoint) : (partsHeliosSetPoint o c r).Fits :=
  .of_len 2 rfl (zeroFrom_zero 2).memWrite.memWrite

theorem partsHeliosPulseMode_fits (o : EncOps) (c : BitVec 6) (r : HeliosPulseMode) :
    (partsHeliosPulseMode o c r).Fits :=
  .of_len 2 rfl (zeroFrom_zero 2).memWrite

/-- The camera delay is written only where the length has its two bytes (44_helios_celaeno_notus.md R265). -/
theorem partsHeliosTriggerMode_fits (tml : TriggerModeLen) (o : EncOps) (c : BitVec 6) (r : HeliosTriggerMode) :
    (partsHeliosTriggerMode tml o c r).Fits := by
  cases tml with
  | four => exact .of_len 4 rfl (zeroFrom_zero 4).memWrite.memWrite
  | six => exact .of_len 6 rfl (zeroFrom_zero 6).memWrite.memWrite.memWrite

theorem partsZeusSetPoint_fits (o : EncOps) (c : BitVec 6) (r : ZeusSetPoint) : (partsZeusSetPoint o c r).Fits :=
  .of_len 5 rfl (zeroFrom_zero 5).memWrite.memWrite.memWrite

theorem partsZeusReport_fits (o : EncOps) (c : BitVec 6) (r : ZeusReport) : (partsZeusReport o c r).Fits :=
  .of_len 8 rfl (zeroFrom_eight _)

theorem partsZeusConfig_fits (o : EncOps) (c : BitVec 6) (r : ZeusConfig) : (partsZeusConfig o c r).Fits :=
  .of_len 8 rfl (zeroFrom_eight _)

theorem partsZeusStatus_fits (o : EncOps) (c : BitVec 6) (r : ZeusStatus) : (partsZeusStatus o c r).Fits :=
  .of_len 7 rfl (zeroFrom_zero 7).memWrite.memWrite.memWrite.memWrite

theorem partsZeusControlPoint_fits (o : EncOps) (c : BitVec 6) (r : ZeusControlPoint) :
    (partsZeusControlPoint o c r).Fits :=
  .of_len 4 rfl (zeroFrom_zero 4).memWrite.memWrite

theorem partsZeusDeltaTemperature_fits (o : EncOps) (c : BitVec 6) (r : ZeusDeltaTemperature) :
    (partsZeusDeltaTemperature o c r).Fits :=
  .of_len 8 rfl (zeroFrom_eight _)

theorem partsResetRequest_fits (r : ResetRequest) : (partsResetRequest r).Fits :=
  .of_len 1 rfl (zeroFrom_zero 1).memWrite

theorem partsIdChangeRequest_fits (r : IdChangeRequest) : (partsIdChangeRequest r).Fits :=
  .of_len 2 rfl (zeroFrom_zero 2).memWrite.memWrite

/-- The period 0 is the empty payload, any other one two bytes (42_network.md R189). -/
theorem partsHeartbeatRequest_fits (r : HeartbeatRequest) : (partsHeartbeatRequest r).Fits := by
  by_cases h : r.periodMs = 0
  · refine .of_len 0 (if_pos h) ?_
    simp only [partsHeartbeatRequest, if_pos h]
    exact zeroFrom_zero 0
  · refine .of_len 2 (if_neg h) ?_
    simp only [partsHeartbeatRequest, if_neg h]
    exact (zeroFrom_zero 2).memWrite

theorem partsMessageRequest_fits (cfg : Config) (o : EncOps) (r : MessageRequest) :
    (partsMessageRequest cfg o r).Fits :=
  .of_len 0 rfl (zeroFrom_zero 0)

theorem rawDeviceParts_fits (cfg : Config) (o : EncOps) (c : BitVec 6) (k : DevKind) (raw : RawRecord) :
    (rawDeviceParts cfg o c k raw).Fits := by
  cases k with
  | notusSetPoint => exact partsNotusSetPoint_fits ..
  | notusConfig => exact partsNotusConfig_fits ..
  | celaenoSetPoint => exact partsCelaenoSetPoint_fits ..
  | celaenoStatus => exact partsCelaenoStatus_fits ..
  | celaenoConfig => exact partsCelaenoConfig_fits ..
  | heliosSetPoint => exact partsHeliosSetPoint_fits ..
  | heliosPulseMode => exact partsHeliosPulseMode_fits ..
  | heliosTriggerMode => exact partsHeliosTriggerMode_fits ..
  | zeusSetPoint => exact partsZeusSetPoint_fits ..
  | zeusReport => exact partsZeusReport_fits ..
  | zeusConfig => exact partsZeusConfig_fits ..
  | zeusStatus => exact partsZeusStatus_fits ..
  | zeusControlPoint => exact partsZeusControlPoint_fits ..
  | zeusDeltaTemperature => exact partsZeusDeltaTemperature_fits ..

theorem rawParts_fits (cfg : Config) (o : EncOps) (k : EncKind) (raw : RawRecord) : (rawParts cfg o k raw).Fits := by
  cases k with
  | device c k => exact rawDeviceParts_fits ..
  | resetRequest => exact partsResetRequest_fits ..
  | idChangeRequest => exact partsIdChangeRequest_fits ..
  | heartbeatRequest => exact partsHeartbeatRequest_fits ..
  | messageRequest => exact partsMessageRequest_fits ..

end Sys2Proof.Machine
end

section
/-! SUPPORT. Every request has one answer, fixed by the configuration, and it is legal (60_exceptions.md R350, R351,
30_encoding.md R101 to R105): branch by branch of PARSE and ENCODE, then for every instruction. -/

namespace Sys2Proof.Machine

/-! ### Errors -/

theorem ErrKind.code_bounds (k : ErrKind) : 1 ≤ k.code.toNat ∧ k.code.toNat ≤ 8 := by
  cases k <;> decide

/-- Any error is a legal answer of PARSE, of ENCODE and of a reserved op, where it is not wrapped (R350). -/
theorem raise_legal {op : BitVec 4} (e : Err) (hop : (op == 0 || op == 1 || decide (10 ≤ op.toNat)) = true) :
    (raise e).legal op = true := by
  simp only [raise, Err.body, Body.legal, ErrKind.code_bounds e.kind, hop]
  rfl

/-- The kinds of error that a device decoder raises (43_zeus.md R220). -/
def Err.ofDevice (e : Err) : Prop := e.kind = .bufferTooSmall ∨ e.kind = .invalidSensorValue

/-- Such an error is a legal answer of PARSE, wrapped (R350). -/
theorem Err.ofDevice.wrapped_legal {e : Err} (h : e.ofDevice) : (e.body true).legal 0 = true := by
  obtain h | h := h <;> simp only [Err.body, Body.legal, h] <;> decide

/-! ### PARSE -/

theorem atLeast_error {len : BitVec 4} {need : Nat} {r : Except Err Record} {e : Err}
    (h : atLeast len need r = .error e) : e = bufferTooSmall len.toNat need ∨ r = .error e := by
  obtain hlen | hlen := Nat.lt_or_ge len.toNat need
  · rw [atLeast_short hlen] at h
    exact .inl (Except.error.inj h).symm
  · rw [atLeast_enough hlen] at h
    exact .inr h

/-- A decoder that checks the length only. -/
theorem atLeast_ok_error {len : BitVec 4} {need : Nat} {r : Record} {e : Err}
    (h : atLeast len need (.ok r) = .error e) : e.ofDevice := by
  obtain rfl | h := atLeast_error h
  · exact .inl rfl
  · cases h

/-- A decoder that checks two sensor values after the length (43_zeus.md R224, R226). -/
theorem atLeast_sensors_error {len : BitVec 4} {need : Nat} {bad0 bad1 : Bool} {r : Record} {e : Err}
    (h : atLeast len need (if bad0 then .error (invalidSensorValue 0) else
      if bad1 then .error (invalidSensorValue 1) else .ok r) = .error e) : e.ofDevice := by
  obtain rfl | h := atLeast_error h
  · exact .inl rfl
  · split_ifs at h <;> cases h <;> exact .inr rfl

theorem decodeDevice_error {cfg : Config} {k : DevKind} {len : BitVec 4} {d : Payload} {e : Err}
    (h : decodeDevice cfg k len d = .error e) : e.ofDevice := by
  cases k with
  | zeusSetPoint | zeusReport => exact atLeast_sensors_error h
  | _ => exact atLeast_ok_error h

/-- An answer of PARSE is legal when its identifier fields are and a wrapped error is a device decoder's. -/
theorem parseAnswer_legal {tag rnode : Byte} {t : BitVec 2} {c : BitVec 6} {n : BitVec 3} {wrapped : Bool}
    {r : Except Err Record} (hnode : rnode = if t = 0 then 0 else n.setWidth 8) (htag : parsedTagLegal tag t c = true)
    (herr : wrapped = true → ∀ e, r = .error e → e.ofDevice) :
    (parseAnswer tag rnode t c n wrapped r).legal 0 = true := by
  cases r with
  | ok r => simp [parseAnswer, Body.legal, hnode, htag]
  | error e =>
    cases wrapped with
    | false => exact raise_legal e rfl
    | true => exact (herr rfl e rfl).wrapped_legal

theorem parseNetAnswer_legal (k : NetKind) (c : BitVec 6) (n : BitVec 3) (r : Except Err Record) :
    (parseNetAnswer k.tag c n r).legal 0 = true :=
  parseAnswer_legal rfl (by cases k <;> rfl) nofun

theorem parseNet_legal (c : BitVec 6) (n : BitVec 3) (len : BitVec 4) (d : Payload) :
    (parseNet c n len d).legal 0 = true := by
  unfold parseNet
  split
  · exact raise_legal _ rfl
  · exact parseNetAnswer_legal ..

theorem parseHeartbeat_legal (c : BitVec 6) (n : BitVec 3) (len : BitVec 4) (d : Payload) :
    (parseHeartbeat c n len d).legal 0 = true :=
  parseAnswer_legal rfl rfl nofun

section
variable {t : BitVec 2} (ht0 : t ≠ 0) (ht3 : t ≠ 3)
include ht0 ht3

/-- The types 1 and 2 answer with the class, or with the poll's tag (30_encoding.md R106). -/
theorem parsedTagLegal_iff (tag : Byte) (c : BitVec 6) :
    parsedTagLegal tag t c = true ↔ tag = c.setWidth 8 ∨ tag = tagMessageRequest := by
  rw [parsedTagLegal, if_neg ht0, if_neg ht3]
  simp [tagMessageRequest]

theorem parseRtr_legal (cfg : Config) (c : BitVec 6) (n : BitVec 3) (len : BitVec 4) :
    (parseRtr cfg t c n len).legal 0 = true :=
  parseAnswer_legal (if_neg ht0).symm ((parsedTagLegal_iff ht0 ht3 ..).2 (.inr rfl)) nofun

theorem parseDevice_legal (cfg : Config) (c : BitVec 6) (n : BitVec 3) (len : BitVec 4) (d : Payload) :
    (parseDevice cfg t c n len d).legal 0 = true := by
  unfold parseDevice
  split
  · exact raise_legal _ rfl
  · exact parseAnswer_legal (if_neg ht0).symm ((parsedTagLegal_iff ht0 ht3 ..).2 (.inl rfl))
      fun _ _ => decodeDevice_error

end

theorem parseBody_legal (cfg : Config) (f : Frame) : (parseBody cfg f).legal 0 = true := by
  unfold parseBody
  obtain ⟨t, c, n⟩ := idDecode f.id
  dsimp only
  split_ifs with _ _ _ htype ht0 ht3
  · exact raise_legal _ rfl
  · exact raise_legal _ rfl
  · exact raise_legal _ rfl
  · obtain ⟨ht0, ht3⟩ := not_or.1 htype
    exact parseRtr_legal ht0 ht3 ..
  · exact parseNet_legal ..
  · exact parseHeartbeat_legal ..
  · exact parseDevice_legal ht0 ht3 ..

theorem lenChecked_legal (len : BitVec 4) {b : Body} (h : b.legal 0 = true) : (lenChecked len b).legal 0 = true := by
  unfold lenChecked
  split_ifs
  · exact raise_legal _ rfl
  · exact h

/-! ### ENCODE -/

/-- The identifier of a frame that ENCODE builds has 11 bits (30_encoding.md R104). -/
theorem idEncode_setWidth_lt (t : BitVec 2) (c : BitVec 6) (n : BitVec 3) :
    (idEncode (t.setWidth 32) (c.setWidth 32) (n.setWidth 32)).toNat < 2 ^ 11 := by
  have ht := t.isLt
  have hc := c.isLt
  have hn := n.isLt
  simp only [idEncode, BitVec.toNat_or, BitVec.toNat_shiftLeft, BitVec.toNat_setWidth, Nat.shiftLeft_eq]
  exact Nat.or_lt_two_pow (Nat.or_lt_two_pow (by omega) (by omega)) (by omega)

theorem Parts.Fits.frame_legal {p : Parts} (h : p.Fits) : (Body.frame p.frame).legal 1 = true := by
  obtain ⟨hle, hzero⟩ := h
  have hlen : p.frame.len.toNat = p.len := by simp only [Parts.frame, BitVec.toNat_ofNat]; omega
  have hid : p.frame.id.toNat < 2 ^ 11 := idEncode_setWidth_lt ..
  have hdata : ∀ k < 8, k < p.len ∨ p.frame.data.byte k = 0 := fun k hk =>
    (Nat.lt_or_ge k p.len).imp_right (hzero k hk)
  have hext : p.frame.ext = false := rfl
  simpa [Body.legal, hlen, hle, hext] using And.intro hid hdata

theorem runParts_legal (o : EncOps) {p : Parts} (h : p.Fits) : (runParts o p).legal 1 = true := by
  obtain ⟨_, _, he⟩ | ⟨_, _, he⟩ | ⟨_, _, he⟩ | ⟨_, he⟩ | ⟨_, _, he⟩ | ⟨_, _, _, _, _, he⟩ := runParts_cases o p <;>
    rw [he]
  pick_goal 6
  · exact h.frame_legal
  all_goals exact raise_legal _ rfl

theorem encodeBody_legal (cfg : Config) (o : EncOps) (tag : Byte) (raw : RawRecord) :
    (encodeBody cfg o tag raw).legal 1 = true := by
  unfold encodeBody
  split_ifs
  · exact raise_legal _ rfl
  · split
    · exact raise_legal _ rfl
    · exact runParts_legal o (rawParts_fits ..)

theorem capChecked_legal (o : EncOps) {b : Body} (h : b.legal 1 = true) : (capChecked o b).legal 1 = true := by
  unfold capChecked
  split_ifs
  · exact raise_legal _ rfl
  · exact h

/-! ### The converters -/

/-- No rounded value is the sentinel: the magnitude stops at the infinity (00_scope.md R16). -/
theorem rne32_ne_nan32 (n : Int) (d : Nat) : rne32 n d ≠ nan32 := by
  have hmag : rneMagnitude n.natAbs d ≤ 0x7F800000 := min_le_left _ _
  have hbits := toNat_rne32 n d
  intro h
  rw [h, nan32] at hbits
  split_ifs at hbits <;> simp at hbits <;> omega

/-- A conversion that ends in one rounding, its bits over 16382 invalid (40_fixed_point.md R141, R143). -/
theorem float_rne32_legal {op : BitVec 4} (hop : (op == 5 || op == 7 || op == 9) = true) (n : Int) (d : Nat) :
    (Body.float (rne32 n d) false).legal op = true := by
  have hne : (rne32 n d == nan32) = false := beq_eq_false_iff_ne.2 (rne32_ne_nan32 n d)
  simp only [Body.legal, hop, hne]
  rfl

theorem binToHum_legal (u : U16) : (Body.float (binToHum u).1 (binToHum u).2).legal 5 = true := by
  unfold binToHum
  split_ifs
  · rfl
  · exact float_rne32_legal rfl ..

theorem binToTemp_legal (u : U16) : (Body.float (binToTemp u).1 (binToTemp u).2).legal 7 = true := by
  unfold binToTemp
  split_ifs
  · rfl
  · exact float_rne32_legal rfl ..

/-! ### Every instruction -/

/-- What an instruction does under a configuration: on whatever port, it answers with one legal body. -/
def AnswersLegally (cfg : Config) (i : Instr) : Prop :=
  ∃ b : Body, b.legal (opCode i) = true ∧ ∀ s : State, s.cfg = cfg → exec i s = s.respond ⟨opCode i, b⟩

section
variable {cfg : Config} {i : Instr}

/-! The shared operations of the rows answer legally. -/

theorem answersLegally_of_answerParse {b : Body} (hop : opCode i = 0) (hb : b.legal 0 = true)
    (h : ∀ s : State, s.cfg = cfg → exec i s = s.answerParse b) : AnswersLegally cfg i :=
  ⟨b, hop ▸ hb, hop ▸ h⟩

theorem answersLegally_of_rejectFrame {x : FrameTail} {e : Err} (hop : opCode i = 0)
    (h : ∀ s : State, exec i s = s.rejectFrame x e) : AnswersLegally cfg i :=
  answersLegally_of_answerParse hop (lenChecked_legal _ (raise_legal e rfl)) fun s _ => h s

theorem answersLegally_of_answerNet {k : NetKind} {c : BitVec 6} {n : BitVec 3} {x : FrameTail} (hop : opCode i = 0)
    (h : ∀ s : State, exec i s = s.answerNet k c n x) : AnswersLegally cfg i :=
  answersLegally_of_answerParse hop (lenChecked_legal _ (parseNetAnswer_legal k c n _)) fun s _ => h s

theorem answersLegally_of_answerDevice {t : BitVec 2} {c : BitVec 6} {n : BitVec 3} {x : FrameTail}
    (hop : opCode i = 0) (ht : t ≠ 0 ∧ t ≠ 3) (h : ∀ s : State, exec i s = s.answerDevice t c n x) :
    AnswersLegally cfg i :=
  answersLegally_of_answerParse hop (lenChecked_legal _ (parseDevice_legal ht.1 ht.2 cfg c n x.len x.data))
    fun s hs => by rw [h, State.answerDevice, hs]

theorem answersLegally_of_parseRtr {t : BitVec 2} {c : BitVec 6} {n : BitVec 3} {x : FrameTail}
    (hop : opCode i = 0) (ht : t ≠ 0 ∧ t ≠ 3)
    (h : ∀ s : State, exec i s = s.answerParse (lenChecked x.len (parseRtr s.cfg t c n x.len))) :
    AnswersLegally cfg i :=
  answersLegally_of_answerParse hop (lenChecked_legal _ (parseRtr_legal ht.1 ht.2 cfg c n x.len))
    fun s hs => by rw [h, hs]

theorem answersLegally_of_answerEncode {b : Body} (hop : opCode i = 1) (hb : b.legal 1 = true)
    (h : ∀ s : State, s.cfg = cfg → exec i s = s.answerEncode b) : AnswersLegally cfg i :=
  ⟨b, hop ▸ hb, hop ▸ h⟩

theorem answersLegally_of_buildMessage {o : EncOps} {p : Parts} (hop : opCode i = 1) (hp : p.Fits)
    (h : ∀ s : State, s.cfg = cfg → exec i s = s.buildMessage o p) : AnswersLegally cfg i :=
  answersLegally_of_answerEncode hop (capChecked_legal o (runParts_legal o hp)) h

/-- The row of a device tag: its own message, or what ENCODE of the tag builds (log entry 7). -/
theorem answersLegally_of_buildDevice {o : EncOps} {c : BitVec 6} {k : DevKind} {p : Parts} {raw : RawRecord}
    (hop : opCode i = 1) (hp : p.Fits) (h : ∀ s : State, s.cfg = cfg → exec i s = s.buildDevice o c k p raw) :
    AnswersLegally cfg i := by
  by_cases hreg : cfg.devRom c = some k
  · refine answersLegally_of_buildMessage (o := o) hop hp fun s hs => ?_
    rw [h s hs, State.buildDevice, hs, if_pos hreg]
  · refine answersLegally_of_answerEncode hop (encodeBody_legal cfg o (c.setWidth 8) raw) fun s hs => ?_
    rw [h s hs, State.buildDevice, hs, if_neg hreg]

theorem answersLegally_of_rejectOp (hop : decide (10 ≤ (opCode i).toNat) = true)
    (h : ∀ s : State, exec i s = s.rejectOp (opCode i)) : AnswersLegally cfg i :=
  ⟨_, raise_legal _ (by rw [hop, Bool.or_true]), fun s _ => h s⟩

end

/-- R340, R350: every instruction answers with one legal response that echoes its op code. -/
theorem exec_answersLegally (cfg : Config) (i : Instr) : AnswersLegally cfg i := by
  cases i with
  | parse f => exact answersLegally_of_answerParse rfl (parseBody_legal cfg f) (by rintro s rfl; rfl)
  | encode o tag raw => exact answersLegally_of_answerEncode rfl (encodeBody_legal cfg o tag raw) (by rintro s rfl; rfl)
  | encodeNotEncodable o tag raw =>
    exact answersLegally_of_answerEncode rfl (encodeBody_legal cfg o tag raw) (by rintro s rfl; rfl)
  | idEncode _ _ _ | idDecode _ | humToBin _ | tempToBin _ | tmpToBin _ => exact ⟨_, rfl, fun _ _ => rfl⟩
  | binToHum u => exact ⟨_, binToHum_legal u, fun _ _ => rfl⟩
  | binToTemp u => exact ⟨_, binToTemp_legal u, fun _ _ => rfl⟩
  | binToTmp u => exact ⟨_, float_rne32_legal rfl .., fun _ _ => rfl⟩
  | reservedOpA _ | reservedOpB _ | reservedOpC _ | reservedOpD _ | reservedOpE _ | reservedOpF _ =>
    exact answersLegally_of_rejectOp rfl fun _ => rfl
  | parseExtendedReject _ _ _ _ _ | parseRtrNetworkReject _ _ _ | parseRtrHeartbeatReject _ _ _
  | parseNetSynchronisationReserved _ _ | parseNetNetcmd4Unknown _ _ | parseNetNetcmd5Unknown _ _
  | parseNetNetcmd6Unknown _ _ =>
    exact answersLegally_of_rejectFrame rfl fun _ => rfl
  | parseRtrPollHp _ _ _ | parseRtrPollStd _ _ _ => exact answersLegally_of_parseRtr rfl (by decide) fun _ => rfl
  | parseNetResetRequest _ _ | parseNetIdChangeRequest _ _ | parseNetErrorReport _ _ | parseNetHeartbeatRequest _ _ =>
    exact answersLegally_of_answerNet rfl fun _ => rfl
  | parseHeartbeat c n x =>
    exact answersLegally_of_answerParse rfl (lenChecked_legal _ (parseHeartbeat_legal c n x.len x.data)) fun _ _ => rfl
  | parseNotusSetPointHp _ _ | parseNotusConfigHp _ _ | parseCelaenoSetPointHp _ _ | parseCelaenoStatusHp _ _
  | parseCelaenoConfigHp _ _ | parseHeliosSetPointHp _ _ | parseHeliosPulseModeHp _ _ | parseHeliosTriggerModeHp _ _
  | parseZeusSetPointHp _ _ | parseZeusReportHp _ _ | parseZeusConfigHp _ _ | parseZeusStatusHp _ _
  | parseZeusControlPointHp _ _ | parseZeusDeltaTemperatureHp _ _ | parseUnknownClassHp _ _ _
  | parseNotusSetPointStd _ _ | parseNotusConfigStd _ _ | parseCelaenoSetPointStd _ _ | parseCelaenoStatusStd _ _
  | parseCelaenoConfigStd _ _ | parseHeliosSetPointStd _ _ | parseHeliosPulseModeStd _ _
  | parseHeliosTriggerModeStd _ _ | parseZeusSetPointStd _ _ | parseZeusReportStd _ _ | parseZeusConfigStd _ _
  | parseZeusStatusStd _ _ | parseZeusControlPointStd _ _ | parseZeusDeltaTemperatureStd _ _
  | parseUnknownClassStd _ _ _ =>
    exact answersLegally_of_answerDevice rfl (by decide) fun _ => rfl
  | encodeNotusSetPoint o r => exact answersLegally_of_buildDevice rfl (partsNotusSetPoint_fits ..) fun _ _ => rfl
  | encodeNotusConfig o r => exact answersLegally_of_buildDevice rfl (partsNotusConfig_fits ..) fun _ _ => rfl
  | encodeCelaenoSetPoint o r => exact answersLegally_of_buildDevice rfl (partsCelaenoSetPoint_fits ..) fun _ _ => rfl
  | encodeCelaenoStatus o r => exact answersLegally_of_buildDevice rfl (partsCelaenoStatus_fits ..) fun _ _ => rfl
  | encodeCelaenoConfig o r => exact answersLegally_of_buildDevice rfl (partsCelaenoConfig_fits ..) fun _ _ => rfl
  | encodeHeliosSetPoint o r => exact answersLegally_of_buildDevice rfl (partsHeliosSetPoint_fits ..) fun _ _ => rfl
  | encodeHeliosPulseMode o r => exact answersLegally_of_buildDevice rfl (partsHeliosPulseMode_fits ..) fun _ _ => rfl
  | encodeHeliosTriggerMode o r =>
    exact answersLegally_of_buildDevice rfl (partsHeliosTriggerMode_fits cfg.triggerModeLen ..) (by rintro s rfl; rfl)
  | encodeZeusSetPoint o r => exact answersLegally_of_buildDevice rfl (partsZeusSetPoint_fits ..) fun _ _ => rfl
  | encodeZeusReport o r => exact answersLegally_of_buildDevice rfl (partsZeusReport_fits ..) fun _ _ => rfl
  | encodeZeusConfig o r => exact answersLegally_of_buildDevice rfl (partsZeusConfig_fits ..) fun _ _ => rfl
  | encodeZeusStatus o r => exact answersLegally_of_buildDevice rfl (partsZeusStatus_fits ..) fun _ _ => rfl
  | encodeZeusControlPoint o r => exact answersLegally_of_buildDevice rfl (partsZeusControlPoint_fits ..) fun _ _ => rfl
  | encodeZeusDeltaTemperature o r =>
    exact answersLegally_of_buildDevice rfl (partsZeusDeltaTemperature_fits ..) fun _ _ => rfl
  | encodeResetRequest o r => exact answersLegally_of_buildMessage rfl (partsResetRequest_fits r) fun _ _ => rfl
  | encodeIdChangeRequest o r => exact answersLegally_of_buildMessage rfl (partsIdChangeRequest_fits r) fun _ _ => rfl
  | encodeHeartbeatRequest o r => exact answersLegally_of_buildMessage rfl (partsHeartbeatRequest_fits r) fun _ _ => rfl
  | encodeMessageRequest o r =>
    exact answersLegally_of_buildMessage rfl (partsMessageRequest_fits cfg o r) (by rintro s rfl; rfl)

end Sys2Proof.Machine
end

section
/-! SUPPORT. All that a step can do, said once, and which ports are legal after it. -/

namespace Sys2Proof.Machine

/-- An instruction that leaves a next state left a legal response on the current port, which exists. -/
theorem exec_eq_next {i : Instr} {s t : State} (h : exec i s = .next t) :
    ∃ r : Response, r.op = opCode i ∧ r.legal = true ∧ s.portReady ∧ t = s.answered r := by
  obtain ⟨b, hb, hexec⟩ := exec_answersLegally s.cfg i
  rw [hexec s rfl] at h
  obtain ⟨hp, ht⟩ := State.respond_eq_next h
  exact ⟨⟨opCode i, b⟩, rfl, hb, hp, ht⟩

/-- The next states of a state, host action by host action (60_exceptions.md R358). -/
inductive StepTo (s : State) : State → Prop where
  /-- No action is left (log entry 3). -/
  | idle (hnil : s.pending = []) : StepTo s s
  /-- A Submit leaves a legal response, valid, on its port. -/
  | submit {p : Nat} {img : Image} {rest : List HostAction} {r : Response} (hcons : s.pending = .submit p img :: rest)
      (hp : p < s.ports.length) (hr : r.legal = true) :
      StepTo s ({ s with curPort := p, pending := rest }.answered r)
  /-- A Read returns a valid response. -/
  | read {p : Nat} {rest : List HostAction} {port : Port} (hcons : s.pending = .read p :: rest)
      (hport : s.ports[p]? = some port) (hvalid : port.respValid = true) :
      StepTo s { s with pending := rest, lastRead := some port.resp }
  /-- A Reset resets every port. -/
  | reset {rest : List HostAction} (hcons : s.pending = .reset :: rest) :
      StepTo s { s with pending := rest }.blockReset

theorem stepTo_of_step {s t : State} (h : step s = .next t) : StepTo s t := by
  unfold step at h
  cases hpend : s.pending with
  | nil =>
    rw [fetch_nil hpend] at h
    cases h
    exact .idle hpend
  | cons a rest =>
    cases a with
    | submit p img =>
      cases hdec : decode img with
      | ok i =>
        rw [fetch_submit hpend hdec] at h
        obtain ⟨r, -, hr, hp, rfl⟩ := exec_eq_next h
        exact .submit hpend hp hr
      | error why =>
        rw [fetch_submit_malformed hpend hdec] at h
        cases h
    | read p =>
      rw [fetch_read hpend] at h
      obtain ⟨port, hport, hvalid, he⟩ | ⟨_, _, _, he⟩ | ⟨_, he⟩ := State.readPort_cases { s with pending := rest } p <;>
        rw [he] at h <;> cases h
      exact .read hpend hport hvalid
    | reset =>
      rw [fetch_reset hpend] at h
      cases h
      exact .reset hpend

/-! ### Legal ports -/

theorem Port.legal_of_not_valid {port : Port} (h : port.respValid = false) : port.legal = true := by
  simp [Port.legal, h]

theorem Port.resp_legal {port : Port} (h : port.legal = true) (hvalid : port.respValid = true) :
    port.resp.legal = true := by
  simpa [Port.legal, hvalid] using h

/-- A legal answer leaves legal ports. -/
theorem State.answered_ports_legal {s : State} {r : Response} (h : s.ports.all Port.legal = true)
    (hr : r.legal = true) : (s.answered r).ports.all Port.legal = true := by
  rw [List.all_eq_true] at h ⊢
  intro port hmem
  obtain hold | rfl := List.mem_or_eq_of_mem_set hmem
  · exact h port hold
  · exact hr

/-- The invariant holds where every valid bit is 0 and nothing was read. -/
theorem State.inv_of_not_valid {s : State} (hlen : 0 < s.ports.length)
    (h : ∀ port ∈ s.ports, port.respValid = false) (hread : s.lastRead.all Response.legal = true) : s.Inv :=
  ⟨hlen, List.all_eq_true.2 fun port hmem => Port.legal_of_not_valid (h port hmem), hread⟩

theorem State.blockReset_not_valid (s : State) : ∀ port ∈ s.blockReset.ports, port.respValid = false := by
  intro port hmem
  obtain ⟨_, _, rfl⟩ := List.mem_map.1 hmem
  rfl

theorem State.resetWith_not_valid (n : Nat) (cfg : Config) :
    ∀ port ∈ (State.resetWith n cfg).ports, port.respValid = false := by
  intro port hmem
  rw [List.eq_of_mem_replicate hmem]
  rfl

theorem State.resetWith_inv {n : Nat} (hn : 0 < n) (cfg : Config) : (State.resetWith n cfg).Inv :=
  State.inv_of_not_valid (by simpa using hn) (State.resetWith_not_valid n cfg) rfl

/-- Answering leaves every valid port valid. -/
theorem State.answered_keeps_valid (s : State) (r : Response) {p : Nat} {port : Port} (hport : s.ports[p]? = some port)
    (hvalid : port.respValid = true) : ∃ port', (s.answered r).ports[p]? = some port' ∧ port'.respValid = true := by
  by_cases hp : p = s.curPort
  · subst hp
    exact ⟨_, State.answered_getElem_same s r (List.getElem?_eq_some_iff.1 hport).1, rfl⟩
  · exact ⟨port, (State.answered_getElem_other s r hp).trans hport, hvalid⟩

end Sys2Proof.Machine
end

section
/-! PROOF. The statements of 10_state.md R34, R35, R37 and R42. -/

namespace Sys2Proof.Proofs
open Sys2Proof.Machine

/-- Settles O56, by the host action of the step: a Submit answers legally, a Read returns what a legal port holds, a Reset
leaves no valid response. -/
theorem stepKeepsTheInvariant : Obligations.StepKeepsTheInvariant := by
  rintro s t ⟨hlen, hports, hread⟩ hstep
  cases stepTo_of_step hstep with
  | idle => exact ⟨hlen, hports, hread⟩
  | submit _ _ hr => exact ⟨by simpa using hlen, State.answered_ports_legal hports hr, hread⟩
  | read _ hport hvalid =>
    have hlegal := List.all_eq_true.1 hports _ (List.mem_of_getElem? hport)
    exact ⟨hlen, hports, Port.resp_legal hlegal hvalid⟩
  | reset => exact State.inv_of_not_valid (by simpa using hlen) (State.blockReset_not_valid _) hread

/-- Settles O55, by the host action of the step. -/
theorem stepKeepsTheInstance : Obligations.StepKeepsTheInstance := by
  intro s t hstep
  cases stepTo_of_step hstep with
  | idle hnil => exact ⟨rfl, rfl, by simp [hnil], fun _ _ port hport hvalid => ⟨port, hport, hvalid⟩⟩
  | submit hcons =>
    exact ⟨rfl, by simp, by simp [hcons], fun _ _ _ hport hvalid => State.answered_keeps_valid _ _ hport hvalid⟩
  | read hcons => exact ⟨rfl, rfl, by simp [hcons], fun _ _ port hport hvalid => ⟨port, hport, hvalid⟩⟩
  | reset hcons => exact ⟨rfl, by simp, by simp [hcons], fun hhead => absurd (by simp [hcons]) hhead⟩

/-- Settles O57: the reset ports are invalid, so nothing they hold has to be legal. -/
theorem resetMeetsTheInvariant : Obligations.ResetMeetsTheInvariant :=
  ⟨fun n cfg hn => ⟨State.resetWith_inv hn cfg, by simp, rfl, State.resetWith_not_valid n cfg⟩,
    State.resetWith_inv two_pos _⟩

end Sys2Proof.Proofs
end

section
/-! PROOF. The statements of 20_memory.md R70: ports share nothing, so a Submit reads only its request and the configuration,
and Submits on different ports do not see each other. -/

namespace Sys2Proof.Machine

/-- Answers on different ports leave the same ports in either order. -/
theorem State.answered_ports_comm (s : State) {p q : Nat} (hpq : p ≠ q) (ri rj : Response) :
    ({ { s with curPort := p }.answered ri with curPort := q }.answered rj).ports =
      ({ { s with curPort := q }.answered rj with curPort := p }.answered ri).ports :=
  List.set_comm _ _ hpq

end Sys2Proof.Machine

namespace Sys2Proof.Proofs
open Sys2Proof.Machine

/-- Settles O49: the one body with which the instruction answers under the configuration, on a port that exists. -/
theorem responseDependsOnlyOnTheRequest : Obligations.ResponseDependsOnlyOnTheRequest := by
  intro i cfg
  obtain ⟨b, -, hexec⟩ := exec_answersLegally cfg i
  exact ⟨⟨opCode i, b⟩, fun s hcfg hready => (hexec s hcfg).trans (State.respond_ready hready _)⟩

/-- Settles O50: by O49 each instruction gives the same response in both orders, since answering keeps the configuration and
the number of ports; and the two answers commute. -/
theorem submitsOnDifferentPortsCommute : Obligations.SubmitsOnDifferentPortsCommute := by
  intro i j p q s hpq hp hq
  obtain ⟨ri, hi⟩ := responseDependsOnlyOnTheRequest i s.cfg
  obtain ⟨rj, hj⟩ := responseDependsOnlyOnTheRequest j s.cfg
  have hqAfter : q < ({ s with curPort := p }.answered ri).ports.length := by simpa using hq
  have hpAfter : p < ({ s with curPort := q }.answered rj).ports.length := by simpa using hp
  exact ⟨_, _, _, _, hi _ rfl hp, hj _ rfl hqAfter, hj _ rfl hq, hi _ rfl hpAfter,
    State.answered_ports_comm s hpq ri rj, rfl⟩

end Sys2Proof.Proofs
end

section
/-! PROOF. The statements of 60_exceptions.md R350 and 30_encoding.md R96 on single answers. -/

namespace Sys2Proof.Proofs
open Sys2Proof.Machine

/-- Settles O51: a next state is the answered one, and its response is legal. -/
theorem everyResponseIsLegal : Obligations.EveryResponseIsLegal := by
  intro i s t h
  obtain ⟨r, -, hlegal, hready, rfl⟩ := exec_eq_next h
  exact ⟨_, State.answered_getElem_same s r hready, rfl, hlegal⟩

/-- Settles O13: a reserved op code rejects the request, whatever its operands are. -/
theorem reservedOpCodesAnswerBadRequest : Obligations.ReservedOpCodesAnswerBadRequest := by
  intro x s hready
  have hreject : ∀ op : BitVec 4, s.rejectOp op = .next (s.answered (errorAnswer op 8 false 0 0)) :=
    fun op => State.respond_ready hready _
  exact ⟨hreject 0xA, hreject 0xB, hreject 0xC, hreject 0xD, hreject 0xE, hreject 0xF⟩

end Sys2Proof.Proofs
end

section
/-! SUPPORT. Which row the key of a frame selects, and what it does: a FRAME row is its branch of the demultiplexer
(30_encoding.md R130, 45_dispatch.md R301), under every configuration. -/

namespace Sys2Proof

theorem type_cases : ∀ t : BitVec 2, t = 0 ∨ t = 1 ∨ t = 2 ∨ t = 3 := by decide

theorem node_cases : ∀ n : BitVec 3, n = 0 ∨ n = 1 ∨ n = 2 ∨ n = 3 ∨ n = 4 ∨ n = 5 ∨ n = 6 ∨ n = 7 := by decide

/-- The default table names each class for one message at most (10_state.md R38). -/
theorem eq_defaultClass_of_defaultDevClass {c : BitVec 6} {k : DevKind} (h : defaultDevClass c = some k) :
    c = k.defaultClass := by
  unfold defaultDevClass at h
  split at h <;> cases h <;> rfl

/-- A class is a device message's or unregistered in the default table. -/
theorem class_cases (c : BitVec 6) : (∃ k : DevKind, c = k.defaultClass) ∨ defaultDevClass c = none := by
  cases h : defaultDevClass c with
  | none => exact .inr rfl
  | some k => exact .inl ⟨k, eq_defaultClass_of_defaultDevClass h⟩

theorem selectDeviceHp_of_none {c : BitVec 6} (h : defaultDevClass c = none) (n : BitVec 3) (x : FrameTail) :
    selectDeviceHp c n x = .parseUnknownClassHp c n x := by
  simp only [selectDeviceHp, h]

theorem selectDeviceStd_of_none {c : BitVec 6} (h : defaultDevClass c = none) (n : BitVec 3) (x : FrameTail) :
    selectDeviceStd c n x = .parseUnknownClassStd c n x := by
  simp only [selectDeviceStd, h]

end Sys2Proof

namespace Sys2Proof.Machine

/-- What PARSE answers after the length check, by the fields of the key (45_dispatch.md R301, R303 to R308). -/
def keyBody (cfg : Config) (ext rtr : Bool) (t : BitVec 2) (c : BitVec 6) (n : BitVec 3) (x : FrameTail) : Body :=
  if ext then raise (invalidIdentifier 0)
  else if rtr then
    if t = 0 ∨ t = 3 then raise (invalidIdentifier 2) else parseRtr cfg t c n x.len
  else if t = 0 then parseNet c n x.len x.data
  else if t = 3 then parseHeartbeat c n x.len x.data
  else parseDevice cfg t c n x.len x.data

theorem parseBody_eq_keyBody (cfg : Config) (f : Frame) :
    parseBody cfg f = lenChecked f.len (keyBody cfg f.ext f.rtr (f.id.extractLsb' 9 2) (f.id.extractLsb' 3 6)
      (f.id.extractLsb' 0 3) ⟨f.id.extractLsb' 11 21, f.len, f.data⟩) := rfl

theorem exec_selectNet (s : State) (c : BitVec 6) (n : BitVec 3) (x : FrameTail) :
    exec (selectNet c n x) s = s.answerParse (lenChecked x.len (parseNet c n x.len x.data)) := by
  obtain rfl | rfl | rfl | rfl | rfl | rfl | rfl | rfl := node_cases n <;> rfl

theorem exec_selectDeviceHp (s : State) (c : BitVec 6) (n : BitVec 3) (x : FrameTail) :
    exec (selectDeviceHp c n x) s = s.answerDevice 1 c n x := by
  obtain ⟨k, rfl⟩ | hnone := class_cases c
  · cases k <;> rfl
  · rw [selectDeviceHp_of_none hnone]; rfl

theorem exec_selectDeviceStd (s : State) (c : BitVec 6) (n : BitVec 3) (x : FrameTail) :
    exec (selectDeviceStd c n x) s = s.answerDevice 2 c n x := by
  obtain ⟨k, rfl⟩ | hnone := class_cases c
  · cases k <;> rfl
  · rw [selectDeviceStd_of_none hnone]; rfl

theorem exec_selectKey (s : State) (ext rtr : Bool) (t : BitVec 2) (c : BitVec 6) (n : BitVec 3) (x : FrameTail) :
    exec (selectKey ext rtr t c n x) s = s.answerParse (lenChecked x.len (keyBody s.cfg ext rtr t c n x)) := by
  cases ext with
  | true => rfl
  | false =>
    cases rtr with
    | true => obtain rfl | rfl | rfl | rfl := type_cases t <;> rfl
    | false =>
      obtain rfl | rfl | rfl | rfl := type_cases t
      · exact exec_selectNet s c n x
      · exact exec_selectDeviceHp s c n x
      · exact exec_selectDeviceStd s c n x
      · rfl

end Sys2Proof.Machine

namespace Sys2Proof.Proofs
open Sys2Proof.Machine

/-- Settles O14: the row of a key is its branch of the demultiplexer, and PARSE takes the branch of the frame's key. -/
theorem parseIsTheRowOfItsKey : Obligations.ParseIsTheRowOfItsKey := by
  intro f s hready
  have hparse : exec (.parse f) s = s.answerParse (parseBody s.cfg f) := rfl
  refine ⟨?_, parseBody s.cfg f, State.respond_ready hready _⟩
  rw [hparse, parseBody_eq_keyBody, exec_selectKey]

end Sys2Proof.Proofs
end

section
/-! SUPPORT. An image has room for every request, and the decoder reads every row's own words as the row (log entry 4). -/

namespace Sys2Proof

/-! ### The room in an image -/

/-- A bit string of at most `m` bits. -/
def FitsIn (m n : Nat) : Prop := n < 2 ^ m

@[simp] theorem fitsIn_zero (m : Nat) : FitsIn m 0 := Nat.two_pow_pos m

/-- A field takes its width from the room. -/
@[simp] theorem fitsIn_putBits {w m : Nat} (h : w ≤ m) (v : BitVec w) (rest : Nat) :
    FitsIn m (putBits v rest) ↔ FitsIn (m - w) rest := by
  have hv := v.isLt
  have hm : 2 ^ m = 2 ^ w * 2 ^ (m - w) := by rw [← Nat.pow_add, Nat.add_sub_cancel' h]
  rw [FitsIn, FitsIn, putBits, hm]
  constructor
  · intro hlt
    exact Nat.lt_of_mul_lt_mul_left (Nat.lt_of_le_of_lt (Nat.le_add_left _ _) hlt)
  · intro hlt
    calc v.toNat + 2 ^ w * rest < 2 ^ w * (rest + 1) := by rw [Nat.mul_succ]; omega
      _ ≤ 2 ^ w * 2 ^ (m - w) := Nat.mul_le_mul_left _ hlt

theorem putFlag_eq_putBits (b : Bool) (rest : Nat) : putFlag b rest = putBits (BitVec.ofBool b) rest := by
  cases b <;> rfl

@[simp] theorem fitsIn_putFlag {m : Nat} (h : 1 ≤ m) (b : Bool) (rest : Nat) :
    FitsIn m (putFlag b rest) ↔ FitsIn (m - 1) rest := by
  rw [putFlag_eq_putBits, fitsIn_putBits h]

theorem putReq_fitsIn {w : Nat} (op : BitVec 4) (v : BitVec w) (hw : w ≤ 188 := by decide) :
    FitsIn 192 (putReq op v) := by
  simp [putReq, hw]

theorem putKey_fitsIn (ext rtr : Bool) (t : BitVec 2) (c : BitVec 6) (n : BitVec 3) (x : FrameTail) :
    FitsIn 192 (putKey ext rtr t c n x) := by
  simp [putKey, putTail, putPayload]

theorem putEnc_fitsIn (tag : Byte) (o : EncOps) {rec : Nat} (h : FitsIn 171 rec) : FitsIn 192 (putEnc tag o rec) := by
  simpa [putEnc, putEncOps] using h

/-- Every request has room in an image. -/
theorem imageNat_fitsIn (i : Instr) : FitsIn 192 i.imageNat := by
  cases i with
  | parse f => simp [Instr.imageNat, putFrame, putPayload]
  | encode o tag rec => simp [Instr.imageNat, putEncOps]
  | idEncode t c n => simp [Instr.imageNat]
  | idDecode _ | humToBin _ | binToHum _ | tempToBin _ | binToTemp _ | tmpToBin _ | binToTmp _
  | reservedOpA _ | reservedOpB _ | reservedOpC _ | reservedOpD _ | reservedOpE _ | reservedOpF _ =>
    exact putReq_fitsIn ..
  | parseExtendedReject _ _ _ _ _ | parseRtrNetworkReject _ _ _ | parseRtrHeartbeatReject _ _ _
  | parseRtrPollHp _ _ _ | parseRtrPollStd _ _ _ | parseNetResetRequest _ _ | parseNetSynchronisationReserved _ _
  | parseNetIdChangeRequest _ _ | parseNetErrorReport _ _ | parseNetNetcmd4Unknown _ _ | parseNetNetcmd5Unknown _ _
  | parseNetNetcmd6Unknown _ _ | parseNetHeartbeatRequest _ _ | parseHeartbeat _ _ _ | parseNotusSetPointHp _ _
  | parseNotusConfigHp _ _ | parseCelaenoSetPointHp _ _ | parseCelaenoStatusHp _ _ | parseCelaenoConfigHp _ _
  | parseHeliosSetPointHp _ _ | parseHeliosPulseModeHp _ _ | parseHeliosTriggerModeHp _ _ | parseZeusSetPointHp _ _
  | parseZeusReportHp _ _ | parseZeusConfigHp _ _ | parseZeusStatusHp _ _ | parseZeusControlPointHp _ _
  | parseZeusDeltaTemperatureHp _ _ | parseUnknownClassHp _ _ _ | parseNotusSetPointStd _ _ | parseNotusConfigStd _ _
  | parseCelaenoSetPointStd _ _ | parseCelaenoStatusStd _ _ | parseCelaenoConfigStd _ _ | parseHeliosSetPointStd _ _
  | parseHeliosPulseModeStd _ _ | parseHeliosTriggerModeStd _ _ | parseZeusSetPointStd _ _ | parseZeusReportStd _ _
  | parseZeusConfigStd _ _ | parseZeusStatusStd _ _ | parseZeusControlPointStd _ _ | parseZeusDeltaTemperatureStd _ _
  | parseUnknownClassStd _ _ _ =>
    exact putKey_fitsIn ..
  | encodeNotEncodable o tag rec => exact putEnc_fitsIn tag o (by simp)
  | encodeNotusSetPoint _ _ | encodeNotusConfig _ _ | encodeCelaenoSetPoint _ _ | encodeCelaenoStatus _ _
  | encodeCelaenoConfig _ _ | encodeHeliosSetPoint _ _ | encodeHeliosPulseMode _ _ | encodeHeliosTriggerMode _ _
  | encodeZeusSetPoint _ _ | encodeZeusReport _ _ | encodeZeusConfig _ _ | encodeZeusStatus _ _
  | encodeZeusControlPoint _ _ | encodeZeusDeltaTemperature _ _ | encodeResetRequest _ _ | encodeIdChangeRequest _ _
  | encodeHeartbeatRequest _ _ | encodeMessageRequest _ _ =>
    apply putEnc_fitsIn
    simp [putFan, putPDConfig,
      putNotusSetPoint, putNotusConfig, putCelaenoSetPoint, putCelaenoStatus, putCelaenoConfig, putHeliosSetPoint,
      putHeliosPulseMode, putHeliosTriggerMode, putZeusSetPoint, putZeusReport, putZeusConfig, putZeusStatus,
      putZeusControlPoint, putZeusDeltaTemperature, putResetRequest, putIdChangeRequest, putHeartbeatRequest,
      putMessageRequest]

/-! ### Decoding -/

theorem decode_eq_ok_iff (img : Image) (i : Instr) :
    decode img = .ok i ↔
      img.bytes.length = imageBytes ∧ (readForm img.form).read (natOfBytes img.bytes) = (i, 0) := by
  unfold decode
  split_ifs with hlen
  · split <;> simp_all
  · simp [hlen]

theorem natOfBytes_encode (i : Instr) : natOfBytes (encode i).bytes = i.imageNat := by
  have hroom : 256 ^ imageBytes = 2 ^ 192 := by norm_num [imageBytes]
  rw [encode, natOfBytes_bytesOfNat, hroom, Nat.mod_eq_of_lt (imageNat_fitsIn i)]

/-! ### Every row is read back -/

/-- The map over the key selects the row of a FRAME-form image (30_encoding.md R130). -/
theorem readFrameForm_putKey {ext rtr : Bool} {t : BitVec 2} {c : BitVec 6} {n : BitVec 3} {x : FrameTail} {i : Instr}
    (h : selectKey ext rtr t c n x = i) : readFrameForm.read (putKey ext rtr t c n x) = (i, 0) := by
  simp [readFrameForm, putKey, h]

theorem readForm_imageNat {i : Instr} (hwf : i.wf = true) : (readForm i.form).read i.imageNat = (i, 0) := by
  cases i with
  | parse _ | encode _ _ _ | idEncode _ _ _ | idDecode _ | humToBin _ | binToHum _ | tempToBin _ | binToTemp _
  | tmpToBin _ | binToTmp _ | reservedOpA _ | reservedOpB _ | reservedOpC _ | reservedOpD _ | reservedOpE _
  | reservedOpF _ =>
    simp [Instr.form, readForm, Instr.imageNat, putReq, readReq]
  | parseExtendedReject _ _ _ _ _ | parseRtrNetworkReject _ _ _ | parseRtrHeartbeatReject _ _ _
  | parseRtrPollHp _ _ _ | parseRtrPollStd _ _ _ | parseNetResetRequest _ _ | parseNetSynchronisationReserved _ _
  | parseNetIdChangeRequest _ _ | parseNetErrorReport _ _ | parseNetNetcmd4Unknown _ _ | parseNetNetcmd5Unknown _ _
  | parseNetNetcmd6Unknown _ _ | parseNetHeartbeatRequest _ _ | parseHeartbeat _ _ _ | parseNotusSetPointHp _ _
  | parseNotusConfigHp _ _ | parseCelaenoSetPointHp _ _ | parseCelaenoStatusHp _ _ | parseCelaenoConfigHp _ _
  | parseHeliosSetPointHp _ _ | parseHeliosPulseModeHp _ _ | parseHeliosTriggerModeHp _ _ | parseZeusSetPointHp _ _
  | parseZeusReportHp _ _ | parseZeusConfigHp _ _ | parseZeusStatusHp _ _ | parseZeusControlPointHp _ _
  | parseZeusDeltaTemperatureHp _ _ | parseNotusSetPointStd _ _ | parseNotusConfigStd _ _
  | parseCelaenoSetPointStd _ _ | parseCelaenoStatusStd _ _ | parseCelaenoConfigStd _ _ | parseHeliosSetPointStd _ _
  | parseHeliosPulseModeStd _ _ | parseHeliosTriggerModeStd _ _ | parseZeusSetPointStd _ _ | parseZeusReportStd _ _
  | parseZeusConfigStd _ _ | parseZeusStatusStd _ _ | parseZeusControlPointStd _ _ | parseZeusDeltaTemperatureStd _ _ =>
    exact readFrameForm_putKey rfl
  | parseUnknownClassHp c n x =>
    exact readFrameForm_putKey (selectDeviceHp_of_none (Option.isNone_iff_eq_none.1 hwf) n x)
  | parseUnknownClassStd c n x =>
    exact readFrameForm_putKey (selectDeviceStd_of_none (Option.isNone_iff_eq_none.1 hwf) n x)
  | encodeNotusSetPoint _ _ | encodeNotusConfig _ _ | encodeCelaenoSetPoint _ _ | encodeCelaenoStatus _ _
  | encodeCelaenoConfig _ _ | encodeHeliosSetPoint _ _ | encodeHeliosPulseMode _ _ | encodeHeliosTriggerMode _ _
  | encodeZeusSetPoint _ _ | encodeZeusReport _ _ | encodeZeusConfig _ _ | encodeZeusStatus _ _
  | encodeZeusControlPoint _ _ | encodeZeusDeltaTemperature _ _ | encodeResetRequest _ _ | encodeIdChangeRequest _ _
  | encodeHeartbeatRequest _ _ | encodeMessageRequest _ _ =>
    simp [Instr.form, readForm, Instr.imageNat, putEnc, readEncForm]
  | encodeNotEncodable o tag rec =>
    simp only [Instr.form, readForm, Instr.imageNat, putEnc, readEncForm, Bits.read_bind, read_bits_putBits,
      readEncOps_putEncOps]
    split
    case h_19 => simp
    all_goals cases hwf

end Sys2Proof
end

section
/-! PROOF. The statements of 30_encoding.md R94, R95, R106 and R130 that go from an instruction to its image. -/

namespace Sys2Proof.Proofs

/-- Settles O58: the image has the length asked for, and holds the row's own words. -/
theorem decodeReadsBackEveryInstruction : Obligations.DecodeReadsBackEveryInstruction := by
  intro i hwf
  rw [decode_eq_ok_iff, natOfBytes_encode]
  exact ⟨length_bytesOfNat .., readForm_imageNat hwf⟩

/-- A word that is a well-formed instruction's image decodes to it. -/
theorem decodeTableWord_of_encode {nbits w : Nat} {i : Instr} (himg : tableImage nbits w = encode i)
    (hwf : i.wf = true) : decodeTableWord nbits w = some i := by
  rw [decodeTableWord, himg, decodeReadsBackEveryInstruction i hwf]

/-- Settles O60: each word is the image of its row, so O58 reads the row back. -/
theorem tableWordsDecodeToTheirRows : Obligations.TableWordsDecodeToTheirRows :=
  ⟨decodeTableWord_of_encode (by decide) rfl, decodeTableWord_of_encode (by decide) rfl,
    decodeTableWord_of_encode (by decide) rfl, decodeTableWord_of_encode (by decide) rfl,
    decodeTableWord_of_encode (by decide) rfl, decodeTableWord_of_encode (by decide) rfl,
    decodeTableWord_of_encode (by decide) rfl, decodeTableWord_of_encode (by decide) rfl⟩

end Sys2Proof.Proofs
end

section
/-! SUPPORT. What the decoder reads, the encoder writes: each reader of fields undoes its writer the other way round, and so
the reader of each form gives an instruction whose image is the one read (log entry 4). -/

namespace Sys2Proof

/-! ### Writing back what was read -/

/-- Writing what a reader returns gives the bits it read. -/
structure WritesBack {α : Type} (read : Bits α) (put : α → Nat → Nat) : Prop where
  eq : ∀ n, put (read.read n).1 (read.read n).2 = n

theorem writesBack_bits (w : Nat) : WritesBack (bits w) putBits := ⟨putBits_read_bits w⟩

theorem writesBack_flag : WritesBack flag putFlag := ⟨putFlag_read_flag⟩

theorem writesBack_payload : WritesBack readPayload putPayload := ⟨fun n => by
  simp [readPayload, putPayload, putBits_read_bits]⟩

theorem writesBack_frame : WritesBack readFrame putFrame := ⟨fun n => by
  simp [readFrame, putFrame, putBits_read_bits, putFlag_read_flag, writesBack_payload.eq]⟩

theorem writesBack_tail : WritesBack readTail putTail := ⟨fun n => by
  simp [readTail, putTail, putBits_read_bits, writesBack_payload.eq]⟩

theorem writesBack_encOps : WritesBack readEncOps putEncOps := ⟨fun n => by
  simp [readEncOps, putEncOps, putBits_read_bits, putFlag_read_flag]⟩

theorem writesBack_fan : WritesBack readFan putFan := ⟨fun n => by
  simp [readFan, putFan, putBits_read_bits]⟩

theorem writesBack_pdConfig : WritesBack readPDConfig putPDConfig := ⟨fun n => by
  simp [readPDConfig, putPDConfig, putBits_read_bits]⟩

theorem writesBack_notusSetPoint : WritesBack readNotusSetPoint putNotusSetPoint := ⟨fun n => by
  simp [readNotusSetPoint, putNotusSetPoint, putBits_read_bits]⟩

theorem writesBack_notusConfig : WritesBack readNotusConfig putNotusConfig := ⟨fun n => by
  simp [readNotusConfig, putNotusConfig, putBits_read_bits]⟩

theorem writesBack_celaenoSetPoint : WritesBack readCelaenoSetPoint putCelaenoSetPoint := ⟨fun n => by
  simp [readCelaenoSetPoint, putCelaenoSetPoint, putBits_read_bits]⟩

theorem writesBack_celaenoStatus : WritesBack readCelaenoStatus putCelaenoStatus := ⟨fun n => by
  simp [readCelaenoStatus, putCelaenoStatus, putBits_read_bits, writesBack_fan.eq]⟩

theorem writesBack_celaenoConfig : WritesBack readCelaenoConfig putCelaenoConfig := ⟨fun n => by
  simp [readCelaenoConfig, putCelaenoConfig, putBits_read_bits]⟩

theorem writesBack_heliosSetPoint : WritesBack readHeliosSetPoint putHeliosSetPoint := ⟨fun n => by
  simp [readHeliosSetPoint, putHeliosSetPoint, putBits_read_bits]⟩

theorem writesBack_heliosPulseMode : WritesBack readHeliosPulseMode putHeliosPulseMode := ⟨fun n => by
  simp [readHeliosPulseMode, putHeliosPulseMode, putBits_read_bits]⟩

theorem writesBack_heliosTriggerMode : WritesBack readHeliosTriggerMode putHeliosTriggerMode := ⟨fun n => by
  simp [readHeliosTriggerMode, putHeliosTriggerMode, putBits_read_bits]⟩

theorem writesBack_zeusSetPoint : WritesBack readZeusSetPoint putZeusSetPoint := ⟨fun n => by
  simp [readZeusSetPoint, putZeusSetPoint, putBits_read_bits]⟩

theorem writesBack_zeusReport : WritesBack readZeusReport putZeusReport := ⟨fun n => by
  simp [readZeusReport, putZeusReport, putBits_read_bits]⟩

theorem writesBack_zeusConfig : WritesBack readZeusConfig putZeusConfig := ⟨fun n => by
  simp [readZeusConfig, putZeusConfig, writesBack_pdConfig.eq]⟩

theorem writesBack_zeusStatus : WritesBack readZeusStatus putZeusStatus := ⟨fun n => by
  simp [readZeusStatus, putZeusStatus, putBits_read_bits, writesBack_fan.eq]⟩

theorem writesBack_zeusControlPoint : WritesBack readZeusControlPoint putZeusControlPoint := ⟨fun n => by
  simp [readZeusControlPoint, putZeusControlPoint, putBits_read_bits]⟩

theorem writesBack_zeusDeltaTemperature : WritesBack readZeusDeltaTemperature putZeusDeltaTemperature := ⟨fun n => by
  simp [readZeusDeltaTemperature, putZeusDeltaTemperature, putBits_read_bits]⟩

theorem writesBack_resetRequest : WritesBack readResetRequest putResetRequest := ⟨fun n => by
  simp [readResetRequest, putResetRequest, putBits_read_bits]⟩

theorem writesBack_idChangeRequest : WritesBack readIdChangeRequest putIdChangeRequest := ⟨fun n => by
  simp [readIdChangeRequest, putIdChangeRequest, putBits_read_bits]⟩

theorem writesBack_heartbeatRequest : WritesBack readHeartbeatRequest putHeartbeatRequest := ⟨fun n => by
  simp [readHeartbeatRequest, putHeartbeatRequest, putBits_read_bits]⟩

theorem writesBack_messageRequest : WritesBack readMessageRequest putMessageRequest := ⟨fun n => by
  simp [readMessageRequest, putMessageRequest, putBits_read_bits]⟩

/-! ### Readers of instructions -/

/-- A well-formed instruction of the form `fm` whose image holds the bits `words`. -/
def HoldsWords (fm : Form) (words : Nat) (i : Instr) : Prop := i.imageNat = words ∧ i.form = fm ∧ i.wf = true

/-- Where a reader of instructions leaves no set bit over, its instruction holds the bits that it read, below those read
before it (`pre`). -/
def ReadsImage (fm : Form) (pre : Nat → Nat) (b : Bits Instr) : Prop :=
  ∀ n, (b.read n).2 = 0 → HoldsWords fm (pre n) (b.read n).1

/-- No field is left. -/
theorem ReadsImage.pure {fm : Form} {pre : Nat → Nat} {i : Instr} (h : HoldsWords fm (pre 0) i) :
    ReadsImage fm pre (pure i) := by
  rintro _ rfl
  exact h

/-- A group of fields, then the rest. -/
theorem ReadsImage.bind {α : Type} {read : Bits α} {put : α → Nat → Nat} {fm : Form} {pre : Nat → Nat}
    {f : α → Bits Instr} (hread : WritesBack read put) (h : ∀ a, ReadsImage fm (fun n => pre (put a n)) (f a)) :
    ReadsImage fm pre (read >>= f) := by
  intro n hn
  have hrest := h (read.read n).1 (read.read n).2 hn
  simpa only [Bits.read_bind, hread.eq] using hrest

/-- The REQ rows, by op code (30_encoding.md R95, R96). -/
theorem readReq_readsImage : ReadsImage .req id readReq := by
  refine .bind (writesBack_bits 4) fun op => ?_
  split
  · exact .bind writesBack_frame fun _ => .pure ⟨rfl, rfl, rfl⟩
  · exact .bind (writesBack_bits 8) fun _ => .bind writesBack_encOps fun _ => .bind (writesBack_bits 160) fun _ =>
      .pure ⟨rfl, rfl, rfl⟩
  · exact .bind (writesBack_bits 8) fun _ => .bind (writesBack_bits 8) fun _ => .bind (writesBack_bits 8) fun _ =>
      .pure ⟨rfl, rfl, rfl⟩
  case h_16 =>
    obtain rfl : op = 0xF := by revert op; decide
    exact .bind (writesBack_bits 188) fun _ => .pure ⟨rfl, rfl, rfl⟩
  all_goals exact .bind (writesBack_bits _) fun _ => .pure ⟨rfl, rfl, rfl⟩

/-- The ENC rows, by tag (R106, R132). -/
theorem readEncForm_readsImage : ReadsImage .enc id readEncForm := by
  refine .bind (writesBack_bits 8) fun tag => .bind writesBack_encOps fun o => ?_
  split
  · exact .bind writesBack_notusSetPoint fun _ => .pure ⟨rfl, rfl, rfl⟩
  · exact .bind writesBack_notusConfig fun _ => .pure ⟨rfl, rfl, rfl⟩
  · exact .bind writesBack_celaenoSetPoint fun _ => .pure ⟨rfl, rfl, rfl⟩
  · exact .bind writesBack_celaenoStatus fun _ => .pure ⟨rfl, rfl, rfl⟩
  · exact .bind writesBack_celaenoConfig fun _ => .pure ⟨rfl, rfl, rfl⟩
  · exact .bind writesBack_heliosSetPoint fun _ => .pure ⟨rfl, rfl, rfl⟩
  · exact .bind writesBack_heliosPulseMode fun _ => .pure ⟨rfl, rfl, rfl⟩
  · exact .bind writesBack_heliosTriggerMode fun _ => .pure ⟨rfl, rfl, rfl⟩
  · exact .bind writesBack_zeusSetPoint fun _ => .pure ⟨rfl, rfl, rfl⟩
  · exact .bind writesBack_zeusReport fun _ => .pure ⟨rfl, rfl, rfl⟩
  · exact .bind writesBack_zeusConfig fun _ => .pure ⟨rfl, rfl, rfl⟩
  · exact .bind writesBack_zeusStatus fun _ => .pure ⟨rfl, rfl, rfl⟩
  · exact .bind writesBack_zeusControlPoint fun _ => .pure ⟨rfl, rfl, rfl⟩
  · exact .bind writesBack_zeusDeltaTemperature fun _ => .pure ⟨rfl, rfl, rfl⟩
  · exact .bind writesBack_resetRequest fun _ => .pure ⟨rfl, rfl, rfl⟩
  · exact .bind writesBack_idChangeRequest fun _ => .pure ⟨rfl, rfl, rfl⟩
  · exact .bind writesBack_heartbeatRequest fun _ => .pure ⟨rfl, rfl, rfl⟩
  · exact .bind writesBack_messageRequest fun _ => .pure ⟨rfl, rfl, rfl⟩
  · exact .bind (writesBack_bits 160) fun _ => .pure ⟨rfl, rfl, by simp_all [Instr.wf, encTableTags]⟩

/-! ### The FRAME rows -/

theorem selectNet_holdsWords (c : BitVec 6) (n : BitVec 3) (x : FrameTail) :
    HoldsWords .frame (putKey false false 0 c n x) (selectNet c n x) := by
  obtain rfl | rfl | rfl | rfl | rfl | rfl | rfl | rfl := node_cases n <;> exact ⟨rfl, rfl, rfl⟩

theorem selectDeviceHp_holdsWords (c : BitVec 6) (n : BitVec 3) (x : FrameTail) :
    HoldsWords .frame (putKey false false 1 c n x) (selectDeviceHp c n x) := by
  obtain ⟨k, rfl⟩ | hnone := class_cases c
  · cases k <;> exact ⟨rfl, rfl, rfl⟩
  · rw [selectDeviceHp_of_none hnone]
    exact ⟨rfl, rfl, Option.isNone_iff_eq_none.2 hnone⟩

theorem selectDeviceStd_holdsWords (c : BitVec 6) (n : BitVec 3) (x : FrameTail) :
    HoldsWords .frame (putKey false false 2 c n x) (selectDeviceStd c n x) := by
  obtain ⟨k, rfl⟩ | hnone := class_cases c
  · cases k <;> exact ⟨rfl, rfl, rfl⟩
  · rw [selectDeviceStd_of_none hnone]
    exact ⟨rfl, rfl, Option.isNone_iff_eq_none.2 hnone⟩

/-- The row of a key is well formed and holds that key (R94, R130). -/
theorem selectKey_holdsWords (ext rtr : Bool) (t : BitVec 2) (c : BitVec 6) (n : BitVec 3) (x : FrameTail) :
    HoldsWords .frame (putKey ext rtr t c n x) (selectKey ext rtr t c n x) := by
  cases ext with
  | true => exact ⟨rfl, rfl, rfl⟩
  | false =>
    cases rtr with
    | true => obtain rfl | rfl | rfl | rfl := type_cases t <;> exact ⟨rfl, rfl, rfl⟩
    | false =>
      obtain rfl | rfl | rfl | rfl := type_cases t
      · exact selectNet_holdsWords c n x
      · exact selectDeviceHp_holdsWords c n x
      · exact selectDeviceStd_holdsWords c n x
      · exact ⟨rfl, rfl, rfl⟩

/-- The FRAME rows, by key. -/
theorem readFrameForm_readsImage : ReadsImage .frame id readFrameForm :=
  .bind (writesBack_bits 3) fun n => .bind (writesBack_bits 6) fun c => .bind (writesBack_bits 2) fun t =>
    .bind writesBack_flag fun rtr => .bind writesBack_flag fun ext => .bind writesBack_tail fun x =>
      .pure (selectKey_holdsWords ext rtr t c n x)

theorem readForm_readsImage (fm : Form) : ReadsImage fm id (readForm fm) := by
  cases fm with
  | req => exact readReq_readsImage
  | frame => exact readFrameForm_readsImage
  | enc => exact readEncForm_readsImage

end Sys2Proof
end

section
/-! PROOF. The statement of 30_encoding.md R94, R95 and R106 that goes from an image to its instruction. -/

namespace Sys2Proof.Proofs

/-- Settles O59: the reader of the image's form leaves nothing over, so the row it gives holds the number in the image. -/
theorem encodeWritesBackEveryImage : Obligations.EncodeWritesBackEveryImage := by
  rintro ⟨fm, bs⟩ i hdec
  obtain ⟨hlen, hread⟩ := (decode_eq_ok_iff ..).1 hdec
  obtain ⟨himg, hform, hwf⟩ := readForm_readsImage fm (natOfBytes bs) (by rw [hread])
  simp only [hread, id] at himg hform hwf
  refine ⟨?_, hwf⟩
  rw [encode, himg, hform, ← hlen, bytesOfNat_natOfBytes]

end Sys2Proof.Proofs
end

section
/-! SUPPORT. What ENCODE of an encodable tag builds: the parts of the tag's encoder, run behind the check of `cap`
(45_dispatch.md R310), as the row of the tag does. -/

namespace Sys2Proof

theorem read_bits_toNat {w : Nat} (v : BitVec w) : ((bits w).read v.toNat).1 = v := by
  show BitVec.ofNat w v.toNat = v
  rw [BitVec.ofNat_toNat, BitVec.setWidth_eq]

end Sys2Proof

namespace Sys2Proof.Machine

/-- The default table registers each device message at its class (10_state.md R38). -/
theorem devRom_defaultClass {cfg : Config} (h : cfg.devTable = Config.default.devTable) (k : DevKind) :
    cfg.devRom k.defaultClass = some k := by
  have hrom : ∀ c : BitVec 6, cfg.devRom c = defaultDevClass c := fun c => by simp [Config.devRom, h, Config.default]
  rw [hrom]
  cases k <;> rfl

/-- ENCODE of an encodable tag runs the tag's parts as a row runs its own. -/
theorem exec_encode_of_encKind {s : State} {tag : Byte} {k : EncKind} (h : encKind s.cfg tag = some k) (o : EncOps)
    (raw : RawRecord) : exec (.encode o tag raw) s = s.buildMessage o (rawParts s.cfg o k raw) := by
  show s.answerEncode (encodeBody s.cfg o tag raw) = _
  rw [encodeBody, h]
  rfl

theorem encKind_device {cfg : Config} {c : BitVec 6} {k : DevKind} (h : cfg.devRom c = some k) :
    encKind cfg (c.setWidth 8) = some (.device c k) := by
  have hlt : (c.setWidth 8).toNat < 64 := by bv_omega
  have hc : (c.setWidth 8).setWidth 6 = c := by simp
  rw [encKind, if_pos hlt, hc, h]
  rfl

/-- ENCODE of a device tag is the row of the message that the table registers there (43_zeus.md R221). -/
theorem exec_encode_device {s : State} {c : BitVec 6} {k : DevKind} (h : s.cfg.devRom c = some k) (o : EncOps)
    (raw rowRaw : RawRecord) :
    exec (.encode o (c.setWidth 8) raw) s = s.buildDevice o c k (rawDeviceParts s.cfg o c k raw) rowRaw := by
  rw [exec_encode_of_encKind (encKind_device h), State.buildDevice, if_pos h]
  rfl

end Sys2Proof.Machine
end

section
/-! PROOF. The statement of 30_encoding.md R130 on the ENC rows. -/

namespace Sys2Proof.Proofs
open Sys2Proof.Machine

/-- Settles O33, by the tag: a device tag is registered by the default table, the four other encodable tags need no table,
and the fallback row is ENCODE itself. -/
theorem encodeIsTheRowOfItsTag : Obligations.EncodeIsTheRowOfItsTag := by
  intro o tag raw s hready htable
  refine ⟨?_, encodeBody s.cfg o tag raw, State.respond_ready hready _⟩
  have hdevice : ∀ k : DevKind, s.cfg.devRom k.defaultClass = some k := devRom_defaultClass htable
  simp only [readEncForm, putEnc, Bits.read_bind, read_bits_putBits, readEncOps_putEncOps]
  split
  · exact exec_encode_device (hdevice .notusSetPoint) o raw _
  · exact exec_encode_device (hdevice .notusConfig) o raw _
  · exact exec_encode_device (hdevice .celaenoSetPoint) o raw _
  · exact exec_encode_device (hdevice .celaenoStatus) o raw _
  · exact exec_encode_device (hdevice .celaenoConfig) o raw _
  · exact exec_encode_device (hdevice .heliosSetPoint) o raw _
  · exact exec_encode_device (hdevice .heliosPulseMode) o raw _
  · exact exec_encode_device (hdevice .heliosTriggerMode) o raw _
  · exact exec_encode_device (hdevice .zeusSetPoint) o raw _
  · exact exec_encode_device (hdevice .zeusReport) o raw _
  · exact exec_encode_device (hdevice .zeusConfig) o raw _
  · exact exec_encode_device (hdevice .zeusStatus) o raw _
  · exact exec_encode_device (hdevice .zeusControlPoint) o raw _
  · exact exec_encode_device (hdevice .zeusDeltaTemperature) o raw _
  · exact exec_encode_of_encKind (k := .resetRequest) rfl o raw
  · exact exec_encode_of_encKind (k := .idChangeRequest) rfl o raw
  · exact exec_encode_of_encKind (k := .heartbeatRequest) rfl o raw
  · exact exec_encode_of_encKind (k := .messageRequest) rfl o raw
  · simp only [Bits.read_bind, Bits.read_pure, read_bits_toNat]
    rfl

end Sys2Proof.Proofs
end

section
/-! SUPPORT. The fixed-point conversions (40_fixed_point.md): what each one answers for NaN, for the infinities and for a
finite value, and the arithmetic of a clamped floor, of a saturated truncation toward zero and of one rounding. -/

namespace Sys2Proof.Machine

theorem f32Den_pos : (0 : ℤ) < f32Den := by decide

/-- An infinity is no NaN (00_scope.md R16). -/
theorem f32IsNaN_of_isInf {f : F32} (h : f32IsInf f = true) : f32IsNaN f = false := by
  simp only [f32IsInf, Bool.and_eq_true, beq_iff_eq] at h
  simp [f32IsNaN, h.2]

/-! ### The clamped floor of the two HIH6030 scales (R140, R142) -/

/-- The common part of the two scales: the floor of `x * 16382 / span`, clamped to 0..16382. -/
def clampedFloor (x span : ℤ) : U16 :=
  if x ≤ 0 then 0 else if span ≤ x then 16382 else BitVec.ofInt 16 (x * 16382 / span)

theorem clampedFloor_of_nonpos {x span : ℤ} (h : x ≤ 0) : clampedFloor x span = 0 := if_pos h

theorem clampedFloor_of_ge {x span : ℤ} (hspan : 0 < span) (h : span ≤ x) : clampedFloor x span = 16382 := by
  rw [clampedFloor, if_neg (by omega), if_pos h]

/-- Inside the range the word holds the floor: it does not wrap. -/
theorem clampedFloor_toNat {x span : ℤ} (hpos : 0 < x) (hlt : x < span) :
    ((clampedFloor x span).toNat : ℤ) = x * 16382 / span ∧ x * 16382 / span < 16382 := by
  have hlow : 0 ≤ x * 16382 / span := Int.ediv_nonneg (by omega) (by omega)
  have hhigh : x * 16382 / span < 16382 := Int.ediv_lt_of_lt_mul (by omega) (by omega)
  refine ⟨?_, hhigh⟩
  rw [clampedFloor, if_neg (by omega), if_neg (by omega), BitVec.toNat_ofInt]
  omega

theorem clampedFloor_le (x span : ℤ) : (clampedFloor x span).toNat ≤ 16382 := by
  by_cases hlow : x ≤ 0
  · rw [clampedFloor_of_nonpos hlow]; decide
  by_cases hhigh : span ≤ x
  · rw [clampedFloor, if_neg hlow, if_pos hhigh]; decide
  have := clampedFloor_toNat (not_le.1 hlow) (not_le.1 hhigh)
  omega

/-- Inside the range the word is the floor of the exact value. -/
theorem clampedFloor_bounds {x span : ℤ} (hpos : 0 < x) (hlt : x < span) :
    ((clampedFloor x span).toNat : ℤ) * span ≤ x * 16382 ∧
    x * 16382 < ((clampedFloor x span).toNat + 1) * span := by
  have hspan : 0 < span := hpos.trans hlt
  rw [(clampedFloor_toNat hpos hlt).1]
  exact ⟨Int.ediv_mul_le _ hspan.ne', Int.lt_ediv_add_one_mul_self _ hspan⟩

/-- The shape of the two scales, for a range that starts at `-offset / f32Den`: NaN gives 0, the infinities the ends. -/
def clampedScale (offset span : ℤ) (f : F32) : U16 :=
  if f32IsNaN f then 0
  else if f32IsInf f then (if f32Negative f then 0 else 16382)
  else clampedFloor (f32Num f + offset) span

theorem humToBin_eq (f : F32) : humToBin f = clampedScale 0 (100 * f32Den) f := by
  simp only [humToBin, clampedScale, clampedFloor, add_zero]

theorem tempToBin_eq (f : F32) : tempToBin f = clampedScale (40 * f32Den) (165 * f32Den) f := by
  have hlow : f32Num f + 40 * f32Den ≤ 0 ↔ f32Num f ≤ -40 * (f32Den : ℤ) := by omega
  have hhigh : 165 * (f32Den : ℤ) ≤ f32Num f + 40 * f32Den ↔ 125 * (f32Den : ℤ) ≤ f32Num f := by omega
  simp only [tempToBin, clampedScale, clampedFloor, hlow, hhigh]

section
variable {offset span : ℤ} {f : F32}

theorem clampedScale_of_isNaN (h : f32IsNaN f = true) : clampedScale offset span f = 0 := if_pos h

theorem clampedScale_of_isInf (h : f32IsInf f = true) :
    clampedScale offset span f = if f32Negative f then 0 else 16382 := by
  simp [clampedScale, f32IsNaN_of_isInf h, h]

theorem clampedScale_of_finite (hnan : f32IsNaN f = false) (hinf : f32IsInf f = false) :
    clampedScale offset span f = clampedFloor (f32Num f + offset) span := by
  simp [clampedScale, hnan, hinf]

theorem clampedScale_le (offset span : ℤ) (f : F32) : (clampedScale offset span f).toNat ≤ 16382 := by
  unfold clampedScale
  split_ifs
  · decide
  · decide
  · decide
  · exact clampedFloor_le _ _

end

/-! ### Truncation toward zero with saturation (R144, R146) -/

/-- `z` is `x / D` truncated toward zero and saturated to `lo..hi`: the ends from one whole step past them on, and between
the integer next to `x / D` on the side of zero. -/
def TruncatesTo (lo hi x D z : ℤ) : Prop :=
  ((hi + 1) * D ≤ x → z = hi) ∧
  (x ≤ (lo - 1) * D → z = lo) ∧
  (0 ≤ x → x < (hi + 1) * D → z * D ≤ x ∧ x < (z + 1) * D) ∧
  (x < 0 → (lo - 1) * D < x → (z - 1) * D < x ∧ x ≤ z * D)

/-- A nonnegative quotient is truncated to its floor. -/
theorem tdiv_bounds_of_nonneg {x D : ℤ} (hD : 0 < D) (hx : 0 ≤ x) :
    0 ≤ x.tdiv D ∧ x.tdiv D * D ≤ x ∧ x < (x.tdiv D + 1) * D := by
  rw [Int.tdiv_eq_ediv_of_nonneg hx]
  exact ⟨Int.ediv_nonneg hx hD.le, Int.ediv_mul_le _ hD.ne', Int.lt_ediv_add_one_mul_self _ hD⟩

/-- A negative one to its ceiling: the floor of the opposite quotient. -/
theorem tdiv_bounds_of_neg {x D : ℤ} (hD : 0 < D) (hx : x < 0) :
    x.tdiv D ≤ 0 ∧ (x.tdiv D - 1) * D < x ∧ x ≤ x.tdiv D * D := by
  obtain ⟨hsign, hle, hlt⟩ := tdiv_bounds_of_nonneg hD (neg_nonneg.2 hx.le)
  rw [Int.neg_tdiv] at hsign hle hlt
  exact ⟨by omega, by linarith, by linarith⟩

theorem sat_bounds {lo hi : ℤ} (h : lo ≤ hi) (z : ℤ) : lo ≤ sat lo hi z ∧ sat lo hi z ≤ hi := by
  unfold sat; omega

theorem sat_of_mem {lo hi z : ℤ} (hlo : lo ≤ z) (hhi : z ≤ hi) : sat lo hi z = z := by
  unfold sat; omega

theorem sat_tdiv_truncatesTo {lo hi x D : ℤ} (hlo : lo ≤ 0) (hhi : 0 ≤ hi) (hD : 0 < D) :
    TruncatesTo lo hi x D (sat lo hi (x.tdiv D)) := by
  rcases lt_or_ge x 0 with hx | hx
  · obtain ⟨hsign, hlt, hle⟩ := tdiv_bounds_of_neg hD hx
    have hend : 0 < (hi + 1) * D := mul_pos (by omega) hD
    refine ⟨fun h => by omega, fun h => ?_, fun h => by omega, fun _ h => ?_⟩
    · have hq : x.tdiv D - 1 < lo - 1 := lt_of_mul_lt_mul_right (hlt.trans_le h) hD.le
      unfold sat; omega
    · have hq : lo - 1 < x.tdiv D := lt_of_mul_lt_mul_right (h.trans_le hle) hD.le
      rw [sat_of_mem (by omega) (by omega)]
      exact ⟨hlt, hle⟩
  · obtain ⟨hsign, hle, hlt⟩ := tdiv_bounds_of_nonneg hD hx
    have hend : (lo - 1) * D < 0 := mul_neg_of_neg_of_pos (by omega) hD
    refine ⟨fun h => ?_, fun h => by omega, fun _ h => ?_, fun h => by omega⟩
    · have hq : hi + 1 < x.tdiv D + 1 := lt_of_mul_lt_mul_right (h.trans_lt hlt) hD.le
      unfold sat; omega
    · have hq : x.tdiv D < hi + 1 := lt_of_mul_lt_mul_right (hle.trans_lt h) hD.le
      rw [sat_of_mem (by omega) (by omega)]
      exact ⟨hle, hlt⟩

section
variable {lo hi n d : ℤ} {f : F32}

theorem truncScale_of_isNaN (h : f32IsNaN f = true) : truncScale lo hi n d f = 0 := if_pos h

theorem truncScale_of_isInf (h : f32IsInf f = true) :
    truncScale lo hi n d f = if f32Negative f then lo else hi := by
  simp [truncScale, f32IsNaN_of_isInf h, h]

theorem truncScale_of_finite (hnan : f32IsNaN f = false) (hinf : f32IsInf f = false) :
    truncScale lo hi n d f = sat lo hi ((f32Num f * n).tdiv (f32Den * d)) := by
  simp [truncScale, hnan, hinf]

theorem truncScale_bounds (hlo : lo ≤ 0) (hhi : 0 ≤ hi) (n d : ℤ) (f : F32) :
    lo ≤ truncScale lo hi n d f ∧ truncScale lo hi n d f ≤ hi := by
  cases hnan : f32IsNaN f
  · cases hinf : f32IsInf f
    · rw [truncScale_of_finite hnan hinf]; exact sat_bounds (hlo.trans hhi) _
    · rw [truncScale_of_isInf hinf]; split_ifs <;> omega
  · rw [truncScale_of_isNaN hnan]; exact ⟨hlo, hhi⟩

/-- A finite value times `n / d`, truncated and saturated, over any spelling `D` of the common denominator. -/
theorem truncScale_truncatesTo {D : ℤ} (hlo : lo ≤ 0) (hhi : 0 ≤ hi) (hD : 0 < D) (hden : f32Den * d = D)
    (hnan : f32IsNaN f = false) (hinf : f32IsInf f = false) :
    TruncatesTo lo hi (f32Num f * n) D (truncScale lo hi n d f) := by
  rw [truncScale_of_finite hnan hinf, hden]
  exact sat_tdiv_truncatesTo hlo hhi hD

/-- The scale of 16 steps a degree (R144; R146, elements 1 to 3). -/
theorem truncScale_sixteen_truncatesTo (hlo : lo ≤ 0) (hhi : 0 ≤ hi) (hnan : f32IsNaN f = false)
    (hinf : f32IsInf f = false) : TruncatesTo lo hi (f32Num f * 16) f32Den (truncScale lo hi 16 1 f) :=
  truncScale_truncatesTo hlo hhi f32Den_pos (mul_one _) hnan hinf

/-- The HIH6030 delta scale (R146, element 0). -/
theorem truncScale_hih_truncatesTo (hlo : lo ≤ 0) (hhi : 0 ≤ hi) (hnan : f32IsNaN f = false)
    (hinf : f32IsInf f = false) :
    TruncatesTo lo hi (f32Num f * 16382) (165 * f32Den) (truncScale lo hi 16382 165 f) :=
  truncScale_truncatesTo hlo hhi (mul_pos (by norm_num) f32Den_pos) (mul_comm _ _) hnan hinf

end

/-- A two's complement word gives back an integer of its range. -/
theorem toInt_ofInt_of_bounds {w : ℕ} {z : ℤ} (hlo : -2 ^ w ≤ z) (hhi : z < 2 ^ w) :
    (BitVec.ofInt (w + 1) z).toInt = z := by
  rw [BitVec.toInt_ofInt]
  refine Int.bmod_eq_of_le ?_ ?_ <;> push_cast <;> rw [pow_succ] <;> omega

/-- The word of a delta scale holds the truncated value: the i16 range does not wrap (R146). -/
theorem deltaWord_toInt (n d : ℤ) (f : F32) :
    (BitVec.ofInt 16 (truncScale (-32768) 32767 n d f)).toInt = truncScale (-32768) 32767 n d f := by
  obtain ⟨hlow, hhigh⟩ := truncScale_bounds (lo := -32768) (hi := 32767) (by norm_num) (by norm_num) n d f
  exact toInt_ofInt_of_bounds (by omega) (by omega)

/-- The low 12 bits that BIN_TO_TMP reads are those that TMP_TO_BIN wrote, so the round trip is the truncated value in
sixteenths. -/
theorem binToTmp_tmpToBin (f : F32) :
    binToTmp ((tmpToBin f).setWidth 16) = rne32 (truncScale (-2048) 2047 16 1 f) 16 := by
  obtain ⟨hlow, hhigh⟩ := truncScale_bounds (lo := -2048) (hi := 2047) (by norm_num) (by norm_num) 16 1 f
  have hbits : ((tmpToBin f).setWidth 16).extractLsb' 0 12 = tmpToBin f :=
    BitVec.eq_of_toNat_eq (by simpa using (tmpToBin f).isLt)
  rw [binToTmp, hbits, tmpToBin, toInt_ofInt_of_bounds (by omega) (by omega)]

/-! ### One rounding (R16) -/

/-- The answer's own last place is at least the one that the rational was rounded in: a carry may lengthen it. -/
theorem two_pow_lastPlace_le_halfUlp {n : ℤ} {d : ℕ} (h : n.natAbs < d * (2 ^ 128 - 2 ^ 103)) :
    2 ^ lastPlace (n.natAbs * 2 ^ 149) d ≤ f32HalfUlp (rne32 n d) := by
  obtain ⟨hmag, hlt⟩ := rneMagnitude_of_lt h
  have hbits := toNat_rne32 n d
  have hunits : (rne32 n d).toNat % 2 ^ 31 = rneMagnitude n.natAbs d := by split_ifs at hbits <;> omega
  have hfull := le_roundedMantissa (x := n.natAbs * 2 ^ 149) (d := d)
  rw [f32HalfUlp, f32Exponent_eq, hunits]
  exact Nat.pow_le_pow_right (by norm_num) (by omega)

/-- Below the bound of `rne32` the answer is at most half an ulp of itself away from the rational. -/
theorem rne32_within_halfUlp {n : ℤ} {d : ℕ} (h : n.natAbs < d * (2 ^ 128 - 2 ^ 103)) :
    (n * f32Den - f32Num (rne32 n d) * d).natAbs ≤ d * f32HalfUlp (rne32 n d) := by
  have hd : 0 < d := Nat.pos_of_mul_pos_right (Nat.zero_lt_of_lt h)
  set x := n.natAbs * 2 ^ 149 with hx
  have hhalf := (roundHalfEven_halfway (x := x) (D := d * 2 ^ lastPlace x d) (by positivity)).1
  rw [← roundedMantissa] at hhalf
  rw [f32Num_rne32 h, natAbs_distance, ← hx]
  calc 2 * ((x : ℤ) - (roundedMantissa x d * 2 ^ lastPlace x d : ℕ) * d).natAbs
      = 2 * ((x : ℤ) - roundedMantissa x d * (d * 2 ^ lastPlace x d : ℕ)).natAbs := by
        push_cast; ring_nf
    _ ≤ d * 2 ^ lastPlace x d := hhalf
    _ ≤ d * f32HalfUlp (rne32 n d) := Nat.mul_le_mul_left d (two_pow_lastPlace_le_halfUlp h)

/-- A rational that a 24-bit mantissa holds, `u` units of 2^-149, is answered exactly. -/
theorem rne32_exact {n u : ℤ} {d : ℕ} (h : n.natAbs < d * (2 ^ 128 - 2 ^ 103)) (hu : AtMost24Bits u)
    (hvalue : ((n.natAbs * 2 ^ 149 : ℕ) : ℤ) = u * d) : f32Num (rne32 n d) * d = n * f32Den := by
  have hd : 0 < d := Nat.pos_of_mul_pos_right (Nat.zero_lt_of_lt h)
  have hnear := (roundedMantissa_nearest (x := n.natAbs * 2 ^ 149) hd hu).1
  have hdist := natAbs_distance n (roundedMantissa (n.natAbs * 2 ^ 149) d * 2 ^ lastPlace (n.natAbs * 2 ^ 149) d : ℕ) d
  rw [← f32Num_rne32 h] at hdist
  omega

/-- A number of sixteenths below 2^24 is answered exactly (R145). -/
theorem rne32_sixteenths {z : ℤ} (hz : z.natAbs < 2 ^ 24) :
    f32IsNaN (rne32 z 16) = false ∧ f32IsInf (rne32 z 16) = false ∧ f32Num (rne32 z 16) * 16 = z * f32Den := by
  have hbound : z.natAbs < 16 * (2 ^ 128 - 2 ^ 103) := hz.trans (by norm_num)
  obtain ⟨hnan, hinf⟩ := rne32_finite hbound
  refine ⟨hnan, hinf, rne32_exact hbound (atMost24Bits_mul_two_pow hz 145) ?_⟩
  push_cast
  ring

/-- The round trip of a HIH6030 scale (R147): where `n / 16382` lies at most one step, `step / 16382`, below the value `v`, the
rounded `n / 16382` is above `v` by at most half an ulp, and below it by at most the step and that half ulp. -/
theorem rne32_roundTrip {n v step : ℤ} (h : n.natAbs < 16382 * (2 ^ 128 - 2 ^ 103)) (hle : n * f32Den ≤ v * 16382)
    (hlt : v * 16382 < n * f32Den + step) :
    f32Num (rne32 n 16382) - v ≤ f32HalfUlp (rne32 n 16382) ∧
    (v - f32Num (rne32 n 16382) - f32HalfUlp (rne32 n 16382)) * 16382 ≤ step := by
  have hround := rne32_within_halfUlp h
  push_cast at hround
  omega

theorem binToHum_of_gt {u : U16} (h : 16382 < u.toNat) : binToHum u = (nan32, true) := if_pos h

theorem binToHum_of_le {u : U16} (h : u.toNat ≤ 16382) : binToHum u = (rne32 (u.toNat * 100) 16382, false) :=
  if_neg (by omega)

theorem binToTemp_of_gt {u : U16} (h : 16382 < u.toNat) : binToTemp u = (nan32, true) := if_pos h

theorem binToTemp_of_le {u : U16} (h : u.toNat ≤ 16382) :
    binToTemp u = (rne32 ((u.toNat : ℤ) * 165 - 655280) 16382, false) :=
  if_neg (by omega)

/-! ### The round trips (R147) -/

section
variable {f g : F32}

/-- The humidity scale: the word is the floor, so `rne32_roundTrip` applies with the step 100. -/
theorem humRoundTrip_within (hg : g = (binToHum (humToBin f)).1) (hnan : f32IsNaN f = false) (hinf : f32IsInf f = false)
    (hpos : 0 < f32Num f) (hlt : f32Num f < 100 * (f32Den : ℤ)) :
    f32Num g - f32Num f ≤ f32HalfUlp g ∧ (f32Num f - f32Num g - f32HalfUlp g) * 16382 ≤ 100 * (f32Den : ℤ) := by
  have hword : humToBin f = clampedFloor (f32Num f) (100 * f32Den) := by
    rw [humToBin_eq, clampedScale_of_finite hnan hinf, add_zero]
  have hle := clampedFloor_le (f32Num f) (100 * f32Den)
  obtain ⟨hfloor, hnext⟩ := clampedFloor_bounds hpos hlt
  rw [hword, binToHum_of_le hle] at hg
  rw [hg]
  exact rne32_roundTrip (by omega) (by linarith) (by linarith)

/-- The HIH6030 temperature scale: the same with the step 165. -/
theorem tempRoundTrip_within (hg : g = (binToTemp (tempToBin f)).1) (hnan : f32IsNaN f = false)
    (hinf : f32IsInf f = false) (hgt : -40 * (f32Den : ℤ) < f32Num f) (hlt : f32Num f < 125 * (f32Den : ℤ)) :
    f32Num g - f32Num f ≤ f32HalfUlp g ∧ (f32Num f - f32Num g - f32HalfUlp g) * 16382 ≤ 165 * (f32Den : ℤ) := by
  have hword : tempToBin f = clampedFloor (f32Num f + 40 * f32Den) (165 * f32Den) := by
    rw [tempToBin_eq, clampedScale_of_finite hnan hinf]
  have hle := clampedFloor_le (f32Num f + 40 * f32Den) (165 * f32Den)
  obtain ⟨hfloor, hnext⟩ := clampedFloor_bounds (x := f32Num f + 40 * f32Den) (span := 165 * f32Den) (by omega) (by omega)
  rw [hword, binToTemp_of_le hle] at hg
  rw [hg]
  exact rne32_roundTrip (by omega) (by linarith) (by linarith)

/-- The TMP1075 scale: the way back is exact, so the error is that of the truncation, toward zero. -/
theorem tmpRoundTrip_within (hg : g = binToTmp ((tmpToBin f).setWidth 16)) (hnan : f32IsNaN f = false)
    (hinf : f32IsInf f = false) (hge : -128 * (f32Den : ℤ) ≤ f32Num f) (hle : f32Num f * 16 ≤ 2047 * (f32Den : ℤ)) :
    (f32Num f - f32Num g).natAbs * 16 ≤ f32Den ∧
    (f32Num g = 0 ∨ ((0 < f32Num g ↔ 0 < f32Num f) ∧ (f32Num g < 0 ↔ f32Num f < 0))) := by
  have hden := f32Den_pos
  obtain ⟨hlow, hhigh⟩ := truncScale_bounds (lo := -2048) (hi := 2047) (by norm_num) (by norm_num) 16 1 f
  obtain ⟨-, -, hnonneg, hneg⟩ := truncScale_sixteen_truncatesTo (lo := -2048) (hi := 2047) (by norm_num)
    (by norm_num) hnan hinf
  rw [binToTmp_tmpToBin] at hg
  generalize truncScale (-2048) 2047 16 1 f = z at *
  have hvalue : f32Num g * 16 = z * f32Den := hg ▸ (rne32_sixteenths (by omega)).2.2
  rcases lt_or_ge (f32Num f) 0 with hf | hf
  · obtain ⟨hbelow, habove⟩ := hneg (by omega) (by omega)
    have hsign : z - 1 < 0 := neg_of_mul_neg_left (hbelow.trans (by omega)) hden.le
    have hprod : z * f32Den ≤ 0 := mul_nonpos_of_nonpos_of_nonneg (by omega) hden.le
    rw [sub_mul, one_mul] at hbelow
    omega
  · obtain ⟨hbelow, habove⟩ := hnonneg (by omega) (by omega)
    have hsign : 0 < z + 1 := pos_of_mul_pos_left (lt_of_le_of_lt (by omega) habove) hden.le
    have hprod : 0 ≤ z * f32Den := mul_nonneg (by omega) hden.le
    rw [add_mul, one_mul] at habove
    omega

end

end Sys2Proof.Machine
end

section
/-! PROOF. The statements of 40_fixed_point.md. -/

namespace Sys2Proof.Proofs
open Sys2Proof.Machine

/-- Settles O1: the scale is a clamped floor with the span 100. -/
theorem humToBinAnswersTheFloor : Obligations.HumToBinAnswersTheFloor := by
  intro f s hready
  refine ⟨humToBin f, State.respond_ready hready _, ?_⟩
  rw [humToBin_eq]
  refine ⟨clampedScale_le .., clampedScale_of_isNaN, clampedScale_of_isInf, fun hnan hinf => ?_⟩
  rw [clampedScale_of_finite hnan hinf, add_zero]
  exact ⟨clampedFloor_of_nonpos, clampedFloor_of_ge (mul_pos (by norm_num) f32Den_pos), clampedFloor_bounds⟩

/-- Settles O2: the scale is a clamped floor with the span 165, of the value above -40. -/
theorem tempToBinAnswersTheFloor : Obligations.TempToBinAnswersTheFloor := by
  intro f s hready
  refine ⟨tempToBin f, State.respond_ready hready _, ?_⟩
  rw [tempToBin_eq]
  refine ⟨clampedScale_le .., clampedScale_of_isNaN, clampedScale_of_isInf, fun hnan hinf => ?_⟩
  rw [clampedScale_of_finite hnan hinf]
  exact ⟨fun hlow => clampedFloor_of_nonpos (by omega),
    fun hhigh => clampedFloor_of_ge (mul_pos (by norm_num) f32Den_pos) (by omega),
    fun hlow hhigh => clampedFloor_bounds (by omega) (by omega)⟩

/-- Settles O3: the scale is the truncation of value * 16, in 12 bits. -/
theorem tmpToBinTruncatesTowardZero : Obligations.TmpToBinTruncatesTowardZero := by
  intro f s hready
  obtain ⟨hlow, hhigh⟩ := truncScale_bounds (lo := -2048) (hi := 2047) (by norm_num) (by norm_num) 16 1 f
  exact ⟨_, hlow, hhigh, State.respond_ready hready _, truncScale_of_isNaN, truncScale_of_isInf, fun hnan hinf =>
    truncScale_sixteen_truncatesTo (lo := -2048) (hi := 2047) (by norm_num) (by norm_num) hnan hinf⟩

/-- Settles O5: 12 bits fit the 24-bit mantissa, so the one rounding changes nothing. -/
theorem binToTmpIsExact : Obligations.BinToTmpIsExact := by
  intro u s hready
  have hsmall : (u.extractLsb' 0 12).toInt.natAbs < 2 ^ 24 := by
    have hlow := BitVec.le_toInt (u.extractLsb' 0 12)
    have hhigh := BitVec.toInt_lt (x := u.extractLsb' 0 12)
    omega
  obtain ⟨hnan, hinf, hvalue⟩ := rne32_sixteenths hsmall
  exact ⟨_, State.respond_ready hready _, rfl, hnan, hinf, hvalue, fun hzero => if_pos hzero⟩

/-- Settles O7, by the element: both delta scales are one truncation, times 16382 / 165 or times 16. -/
theorem deltaScalesTruncateTowardZero : Obligations.DeltaScalesTruncateTowardZero := by
  refine ⟨fun w => ⟨rfl, rfl⟩, fun f element0 => ?_⟩
  have hbounds := truncScale_bounds (lo := -32768) (hi := 32767) (by norm_num) (by norm_num) (f := f)
  cases element0 with
  | false =>
    exact ⟨_, (hbounds 16 1).1, (hbounds 16 1).2, deltaWord_toInt 16 1 f, truncScale_of_isNaN, truncScale_of_isInf,
      fun hnan hinf => truncScale_sixteen_truncatesTo (lo := -32768) (hi := 32767) (by norm_num) (by norm_num) hnan hinf⟩
  | true =>
    exact ⟨_, (hbounds 16382 165).1, (hbounds 16382 165).2, deltaWord_toInt 16382 165 f, truncScale_of_isNaN,
      truncScale_of_isInf, fun hnan hinf =>
        truncScale_hih_truncatesTo (lo := -32768) (hi := 32767) (by norm_num) (by norm_num) hnan hinf⟩

/-- Settles O4, on both sides of 16382; `nan32` is the sentinel. -/
theorem binToHumAndTempRoundOnceOrAnswerTheSentinel : Obligations.BinToHumAndTempRoundOnceOrAnswerTheSentinel := by
  intro u s hready
  have hhum : exec (.binToHum u) s = .next (s.answered ⟨0x5, .float (binToHum u).1 (binToHum u).2⟩) :=
    State.respond_ready hready _
  have htemp : exec (.binToTemp u) s = .next (s.answered ⟨0x7, .float (binToTemp u).1 (binToTemp u).2⟩) :=
    State.respond_ready hready _
  refine ⟨fun hgt => ?_, fun hle => ?_⟩
  · rw [hhum, htemp, binToHum_of_gt hgt, binToTemp_of_gt hgt]
    exact ⟨rfl, rfl⟩
  · rw [hhum, htemp, binToHum_of_le hle, binToTemp_of_le hle]
    exact ⟨rfl, rfl⟩

/-- Settles O8, scale by scale. -/
theorem roundTripErrorStaysWithinTheBound : Obligations.RoundTripErrorStaysWithinTheBound := fun _ hnan hinf =>
  ⟨humRoundTrip_within rfl hnan hinf, tempRoundTrip_within rfl hnan hinf, tmpRoundTrip_within rfl hnan hinf⟩

end Sys2Proof.Proofs
end

section
/-! SUPPORT. The identifier codec (41_identifier.md): the fields of an identifier, side by side, are its low 11 bits, and they
are all that splitting reads. -/

namespace Sys2Proof.Machine

/-! ### Composing (R170) -/

/-- Composing in numbers, for operands of any size: `|||` and not `+`, as wide operands overlap. -/
theorem idEncode_eq_ofNat (t c n : U32) :
    idEncode t c n = BitVec.ofNat 32 ((t.toNat * 512) ||| (c.toNat * 8) ||| n.toNat) :=
  BitVec.eq_of_toNat_eq (by simp [idEncode, Nat.shiftLeft_eq])

/-- In-range fields do not overlap. -/
theorem idEncode_setWidth_eq_append (t : BitVec 2) (c : BitVec 6) (n : BitVec 3) :
    idEncode (t.setWidth 32) (c.setWidth 32) (n.setWidth 32) = (t ++ c ++ n).setWidth 32 := by
  rw [BitVec.setWidth_append_append_eq_shiftLeft_setWidth_or, idEncode]

/-! ### Splitting (R170, R172) -/

theorem idDecode_eq_ofNat (id : U32) :
    idDecode id = (BitVec.ofNat 2 (id.toNat / 512), BitVec.ofNat 6 (id.toNat / 8), BitVec.ofNat 3 id.toNat) := by
  simp [idDecode, BitVec.extractLsb', Nat.shiftRight_eq_div_pow]

theorem idDecode_setWidth_append (t : BitVec 2) (c : BitVec 6) (n : BitVec 3) :
    idDecode ((t ++ c ++ n).setWidth 32) = (t, c, n) := by
  simp (disch := decide) only [idDecode, BitVec.extractLsb'_setWidth_of_le, BitVec.extractLsb'_append_eq_of_le,
    BitVec.extractLsb'_append_eq_right, BitVec.extractLsb'_eq_self, Nat.reduceSub]

/-- The three fields, side by side, are the low 11 bits. -/
theorem append_idDecode (id : U32) : (idDecode id).1 ++ (idDecode id).2.1 ++ (idDecode id).2.2 = id.extractLsb' 0 11 :=
  calc (idDecode id).1 ++ (idDecode id).2.1 ++ (idDecode id).2.2
      = id.extractLsb' 3 (2 + 6) ++ id.extractLsb' 0 3 :=
        congrArg (· ++ id.extractLsb' 0 3) (BitVec.extractLsb'_append_extractLsb'_eq_extractLsb' rfl)
    _ = id.extractLsb' 0 11 := BitVec.extractLsb'_append_extractLsb'_eq_extractLsb' rfl

section
variable {id id' : U32} (h : id.extractLsb' 0 11 = id'.extractLsb' 0 11)
include h

/-- Every field lies below bit 11, so it is a field of the low 11 bits (R172). -/
theorem idDecode_eq_of_low11_eq : idDecode id = idDecode id' := by
  have hfield (start len : ℕ) (hle : start + len ≤ 11) : id.extractLsb' start len = id'.extractLsb' start len := by
    rw [← BitVec.extractLsb'_extractLsb'_of_le hle, h, BitVec.extractLsb'_extractLsb'_of_le hle]
  rw [idDecode, hfield 9 2 (by decide), hfield 3 6 (by decide), hfield 0 3 (by decide), idDecode]

/-- PARSE reads the identifier only by splitting it (45_dispatch.md R301, R304). -/
theorem parseBody_eq_of_low11_eq (cfg : Config) (ext rtr : Bool) (len : BitVec 4) (d : Payload) :
    parseBody cfg ⟨id, ext, rtr, len, d⟩ = parseBody cfg ⟨id', ext, rtr, len, d⟩ := by
  simp only [parseBody, idDecode_eq_of_low11_eq h]

end

/-! ### The operations (R171, R173; 45_dispatch.md R301) -/

theorem exec_idEncode (t c n : Byte) (s : State) : exec (.idEncode t c n) s
    = s.respond ⟨0x2, .ident (idEncode (t.setWidth 32) (c.setWidth 32) (n.setWidth 32))⟩ := rfl

theorem exec_idDecode (id : U32) (s : State) : exec (.idDecode id) s
    = s.respond ⟨0x3, .split (idDecode id).1 (idDecode id).2.1 (idDecode id).2.2⟩ := rfl

theorem exec_parse (f : Frame) (s : State) : exec (.parse f) s = s.answerParse (parseBody s.cfg f) := rfl

/-! ### The round trips (R174) -/

theorem idDecode_idEncode (t : BitVec 2) (c : BitVec 6) (n : BitVec 3) :
    idDecode (idEncode (t.setWidth 32) (c.setWidth 32) (n.setWidth 32)) = (t, c, n) := by
  rw [idEncode_setWidth_eq_append, idDecode_setWidth_append]

theorem idEncode_idDecode (id : U32) :
    idEncode ((idDecode id).1.setWidth 32) ((idDecode id).2.1.setWidth 32) ((idDecode id).2.2.setWidth 32)
      = (id.extractLsb' 0 11).setWidth 32 := by
  rw [idEncode_setWidth_eq_append, append_idDecode]

/-- An identifier of 11 bits is its low 11 bits. -/
theorem setWidth_low11_of_lt {v : U32} (h : v.toNat < 2048) : (v.extractLsb' 0 11).setWidth 32 = v :=
  BitVec.eq_of_toNat_eq (by simp; omega)

end Sys2Proof.Machine

/-! PROOF. The statements of 41_identifier.md. -/

namespace Sys2Proof.Proofs
open Sys2Proof.Machine

/-- Settles O11: the two round trips make splitting the inverse of composing, so the triple of `v` is `idDecode v`. -/
theorem identifierLaws : Obligations.IdentifierLaws := by
  refine ⟨fun t c n => ⟨idDecode_idEncode t c n, Nat.le_of_lt_succ (idEncode_setWidth_lt t c n)⟩, idEncode_idDecode,
    fun v hv => ⟨(idDecode v).1, (idDecode v).2.1, (idDecode v).2.2, ?_, fun t' c' n' hcompose => ?_⟩⟩
  · rw [idEncode_idDecode, setWidth_low11_of_lt hv]
  · rw [← hcompose, idDecode_idEncode]

/-- Settles O12: both operations reach the identifier through its low 11 bits. -/
theorem highIdentifierBitsAreIgnored : Obligations.HighIdentifierBitsAreIgnored := by
  intro id id' s hlow
  refine ⟨?_, fun ext rtr len d => ?_⟩
  · rw [exec_idDecode, exec_idDecode, idDecode_eq_of_low11_eq hlow]
  · rw [exec_parse, exec_parse, parseBody_eq_of_low11_eq hlow]

/-- Settles O9: a byte keeps its value in 32 bits. -/
theorem idEncodeComposesWithoutMasking : Obligations.IdEncodeComposesWithoutMasking := by
  intro t c n s hready
  have hvalue (b : Byte) : (b.setWidth 32).toNat = b.toNat := BitVec.toNat_setWidth_of_le (by decide)
  rw [exec_idEncode, State.respond_ready hready, idEncode_eq_ofNat, hvalue, hvalue, hvalue]

/-- Settles O10, by the value of each field. -/
theorem idDecodeSplitsTheLowBits : Obligations.IdDecodeSplitsTheLowBits := by
  intro id s hready
  rw [exec_idDecode, State.respond_ready hready, idDecode_eq_ofNat]

end Sys2Proof.Proofs
end

section
/-! SUPPORT. What a row answers on a port that exists: the FRAME rows after the length check (45_dispatch.md R302), the ENC
rows after the checks of ENCODE in their order (R310, 60_exceptions.md R351), and the frame that the parts build. -/

namespace Sys2Proof.Machine

/-! ### FRAME rows -/

/-- BUFFER_TOO_SMALL holds the actual length unchanged (60_exceptions.md R342). -/
theorem body_bufferTooSmall (wrapped : Bool) (actual : BitVec 4) (need : ℕ) :
    (bufferTooSmall actual.toNat need).body wrapped
      = .err 1 wrapped (actual.setWidth 32) (BitVec.ofNat 32 need) := by
  rw [bufferTooSmall, BitVec.ofNat_toNat]
  rfl

theorem raise_bufferTooSmall (actual : BitVec 4) (need : ℕ) :
    raise (bufferTooSmall actual.toNat need) = .err 1 false (actual.setWidth 32) (BitVec.ofNat 32 need) :=
  body_bufferTooSmall false actual need

section
variable {s : State} (hready : s.portReady)
include hready

theorem State.answerParse_short {len : BitVec 4} (hlen : len.toNat ≤ 8) (b : Body) :
    s.answerParse (lenChecked len b) = .next (s.answered ⟨0x0, b⟩) := by
  rw [lenChecked_short hlen]
  exact State.respond_ready hready _

theorem State.answerParse_long {len : BitVec 4} (hlen : 8 < len.toNat) (b : Body) :
    s.answerParse (lenChecked len b) = .next (s.answered (errorAnswer 0x0 8 false 2 0)) := by
  rw [lenChecked_long hlen]
  exact State.respond_ready hready _

theorem State.rejectFrame_short {x : FrameTail} (hlen : x.len.toNat ≤ 8) (e : Err) :
    s.rejectFrame x e = .next (s.answered ⟨0x0, raise e⟩) :=
  State.answerParse_short hready hlen _

end

/-! ### The checks of ENCODE -/

section
variable {o : EncOps} {p : Parts} (henum : p.enumFault = none)
include henum

theorem runParts_of_node (hchecked : p.nodeChecked = true) (hnode : 7 < o.node.toNat) :
    runParts o p = raise (invalidArgument 0 o.node) := by
  simp [runParts, henum, hchecked, hnode]

variable (hnode : ¬ (p.nodeChecked = true ∧ 7 < o.node.toNat))
include hnode

theorem runParts_of_check {e : Err} (hcheck : p.check = some e) : runParts o p = raise e := by
  simp [runParts, henum, hnode, hcheck]

variable (hcheck : p.check = none)
include hcheck

theorem runParts_of_short (hcap : o.cap.toNat < p.len) :
    runParts o p = .err 1 false (o.cap.setWidth 32) (BitVec.ofNat 32 p.len) := by
  simp [runParts, henum, hnode, hcheck, hcap, raise_bufferTooSmall]

theorem runParts_of_range (hcap : p.len ≤ o.cap.toNat) {e : Err} (hrange : p.range = some e) :
    runParts o p = raise e := by
  simp [runParts, henum, hnode, hcheck, not_lt.2 hcap, hrange]

end

/-- A message whose encoder ignores the node operand passes every node (45_dispatch.md R313). -/
theorem Parts.passes_node {p : Parts} (h : p.nodeChecked = false) (o : EncOps) :
    ¬ (p.nodeChecked = true ∧ 7 < o.node.toNat) := fun hnode => Bool.false_ne_true (h.symm.trans hnode.1)

/-- ENCODE answers with the first check that fails, or with the frame, where the capacity is one of a frame. -/
theorem State.buildMessage_ready {s : State} (hready : s.portReady) {o : EncOps} (hcap : o.cap.toNat ≤ 8) (p : Parts) :
    s.buildMessage o p = .next (s.answered ⟨0x1, runParts o p⟩) := by
  rw [State.buildMessage, capChecked_small hcap]
  exact State.respond_ready hready _

/-! ### The frame -/

/-- In-range fields do not overlap, so composing them is a sum (30_encoding.md R90). -/
theorem idEncode_setWidth_eq_ofNat (t : BitVec 2) (c : BitVec 6) (n : BitVec 3) :
    idEncode (t.setWidth 32) (c.setWidth 32) (n.setWidth 32)
      = BitVec.ofNat 32 (t.toNat * 512 + c.toNat * 8 + n.toNat) := by
  have htc : (t ++ c).toNat = t.toNat * 2 ^ 6 + c.toNat := by
    rw [BitVec.toNat_append, ← Nat.shiftLeft_add_eq_or_of_lt c.isLt, Nat.shiftLeft_eq]
  have htcn : (t ++ c ++ n).toNat = (t ++ c).toNat * 2 ^ 3 + n.toNat := by
    rw [BitVec.toNat_append, ← Nat.shiftLeft_add_eq_or_of_lt n.isLt, Nat.shiftLeft_eq]
  rw [idEncode_setWidth_eq_append, ← BitVec.ofNat_toNat, htcn, htc]
  congr 1
  ring

theorem frameAnswer_of_parts (p : Parts) :
    (⟨0x1, .frame p.frame⟩ : Response)
      = frameAnswer p.t.toNat p.c.toNat p.n.toNat p.rtr (BitVec.ofNat 4 p.len) p.payload := by
  rw [frameAnswer, ← idEncode_setWidth_eq_ofNat]
  rfl

/-! ### Writing whole fields -/

theorem memWrite_byte (d : Payload) (k : ℕ) (b : Byte) : memWrite d k 1 b.toNat = d.setIfInBounds k b := by
  simp [memWrite]

/-- A word is written low byte first (20_memory.md R63). -/
theorem memWrite_u16 (d : Payload) (k : ℕ) (u : U16) :
    memWrite d k 2 u.toNat
      = (d.setIfInBounds k (u.extractLsb' 0 8)).setIfInBounds (k + 1) (u.extractLsb' 8 8) := by
  simp [memWrite, BitVec.extractLsb', Nat.shiftRight_eq_div_pow]

end Sys2Proof.Machine
end

section
/-! SUPPORT. The decoders and encoders of the network commands, the heartbeat announcement and the poll (42_network.md). -/

namespace Sys2Proof.Machine

/-! ### Decoders -/

theorem netRom_eq_none_iff : ∀ n : BitVec 3, netRom n = none ↔ n = 1 ∨ n = 4 ∨ n = 5 ∨ n = 6 := by decide

/-- The key (0, 0, 0) selects the network branch (45_dispatch.md R306). -/
theorem keyBody_network (cfg : Config) (c : BitVec 6) (n : BitVec 3) (x : FrameTail) :
    keyBody cfg false false 0 c n x = parseNet c n x.len x.data := rfl

/-- The sub-command alone decides (R190): neither the class nor the payload is examined. -/
theorem parseNet_of_none {n : BitVec 3} (h : netRom n = none) (c : BitVec 6) (len : BitVec 4) (d : Payload) :
    parseNet c n len d = .err 6 false (n.setWidth 32) 0 := by
  rw [parseNet, h]
  rfl

theorem decodeReset_eq (c : BitVec 6) (len : BitVec 4) (d : Payload) :
    decodeReset c len d = atLeast len 1 (.ok (.resetRequest ⟨c, d.byte 0⟩)) := by
  rw [decodeReset, memRead8_eq]

theorem decodeIdChange_eq (c : BitVec 6) (len : BitVec 4) (d : Payload) :
    decodeIdChange c len d = atLeast len 2 (.ok (.idChangeRequest ⟨c, d.byte 0, d.byte 1⟩)) := by
  rw [decodeIdChange, memRead8_eq, memRead8_eq]

theorem decodeErrorReport_eq (len : BitVec 4) (d : Payload) :
    decodeErrorReport len d = atLeast len 4 (.ok (.errorReport ⟨d.byte 0, d.byte 1, d.byte 3 ++ d.byte 2⟩)) := by
  rw [decodeErrorReport, memRead8_eq, memRead8_eq, memRead16_eq]

theorem decodeHeartbeatRequest_of_empty {len : BitVec 4} (h : len.toNat = 0) (c : BitVec 6) (d : Payload) :
    decodeHeartbeatRequest c len d = .ok (.heartbeatRequest ⟨c, 0⟩) := if_pos h

theorem decodeHeartbeatRequest_of_nonempty {len : BitVec 4} (h : len.toNat ≠ 0) (c : BitVec 6) (d : Payload) :
    decodeHeartbeatRequest c len d
      = atLeast len 2 (.ok (.heartbeatRequest ⟨c, (d.byte 1 ++ d.byte 0).setWidth 32⟩)) := by
  rw [decodeHeartbeatRequest, if_neg h, memRead16_eq]

theorem decodeHeartbeat_of_one {len : BitVec 4} (h : len.toNat = 1) (c : BitVec 6) (n : BitVec 3) (d : Payload) :
    decodeHeartbeat c n len d = .error (bufferTooSmall 1 2) := if_pos h

/-- Each version byte is read where the length reaches it, the major and the minor together (R191). -/
theorem decodeHeartbeat_of_ne_one {len : BitVec 4} (h : len.toNat ≠ 1) (c : BitVec 6) (n : BitVec 3) (d : Payload) :
    decodeHeartbeat c n len d = .ok (.heartbeat ⟨c, n,
      if 2 ≤ len.toNat then d.byte 0 else 0, if 2 ≤ len.toNat then d.byte 1 else 0,
      if 3 ≤ len.toNat then d.byte 2 else 0, if 4 ≤ len.toNat then d.byte 3 else 0⟩) := by
  rw [decodeHeartbeat, if_neg h]
  simp only [memRead8_eq]

section
variable {len : BitVec 4} {cfg : Config} {c : BitVec 6} (n : BitVec 3)

theorem decodeRtr_of_payload (hlen : 0 < len.toNat) : decodeRtr cfg c n len = .error (invalidIdentifier 1) :=
  if_pos hlen.ne'

theorem decodeRtr_of_unregistered (hlen : len.toNat = 0) (hclass : (cfg.devRom c).isNone = true) :
    decodeRtr cfg c n len = .error (unknownClass c) := by
  rw [decodeRtr, if_neg (not_not.2 hlen), if_pos hclass]

theorem decodeRtr_of_registered (hlen : len.toNat = 0) (hclass : (cfg.devRom c).isSome = true) :
    decodeRtr cfg c n len = .ok (.messageRequest ⟨c, n⟩) := by
  rw [decodeRtr, if_neg (not_not.2 hlen), if_neg (ne_true_of_eq_false (Option.isNone_eq_false_iff.2 hclass))]

end

/-! ### The rows of the decoders -/

/-- No error of a network command is wrapped (60_exceptions.md R350). -/
theorem parseNetAnswer_bufferTooSmall (tag : Byte) (c : BitVec 6) (n : BitVec 3) (len : BitVec 4) (need : ℕ) :
    parseNetAnswer tag c n (.error (bufferTooSmall len.toNat need))
      = .err 1 false (len.setWidth 32) (BitVec.ofNat 32 need) :=
  body_bufferTooSmall false len need

section
variable {s : State} (hready : s.portReady) {c : BitVec 6} {n : BitVec 3} {x : FrameTail} (hlen : x.len.toNat ≤ 8)
include hready hlen

theorem State.answerNet_short (k : NetKind) :
    s.answerNet k c n x = .next (s.answered ⟨0x0, parseNetAnswer k.tag c n (decodeNet k c x.len x.data)⟩) :=
  State.answerParse_short hready hlen _

theorem State.answerNet_of_ok {k : NetKind} {r : Record} (h : decodeNet k c x.len x.data = .ok r) :
    s.answerNet k c n x = .next (s.answered (networkAnswer k.tag c n r)) := by
  rw [State.answerNet_short hready hlen, h]
  rfl

/-- A network command whose decoder checks the length only (R180). -/
theorem State.answerNet_of_atLeast {k : NetKind} {need : ℕ} {r : Record}
    (h : decodeNet k c x.len x.data = atLeast x.len need (.ok r)) :
    (need ≤ x.len.toNat → s.answerNet k c n x = .next (s.answered (networkAnswer k.tag c n r))) ∧
    (x.len.toNat < need → s.answerNet k c n x
      = .next (s.answered (errorAnswer 0x0 1 false (x.len.setWidth 32) (BitVec.ofNat 32 need)))) := by
  refine ⟨fun henough => State.answerNet_of_ok hready hlen (h.trans (atLeast_enough henough _)), fun hshort => ?_⟩
  rw [State.answerNet_short hready hlen, h, atLeast_short hshort, parseNetAnswer_bufferTooSmall]
  rfl

theorem exec_parseHeartbeat : exec (.parseHeartbeat c n x) s
    = .next (s.answered ⟨0x0, parseAnswer 0x48 (n.setWidth 8) 3 c n false (decodeHeartbeat c n x.len x.data)⟩) :=
  State.answerParse_short hready hlen _

/-- The two poll rows run the one decoder, each with its type field. -/
theorem exec_parseRtrPoll {r : Except Err Record} (h : decodeRtr s.cfg c n x.len = r) :
    exec (.parseRtrPollHp c n x) s = .next (s.answered ⟨0x0, parseAnswer 0x80 (n.setWidth 8) 1 c n false r⟩) ∧
    exec (.parseRtrPollStd c n x) s = .next (s.answered ⟨0x0, parseAnswer 0x80 (n.setWidth 8) 2 c n false r⟩) := by
  subst h
  exact ⟨State.answerParse_short hready hlen _, State.answerParse_short hready hlen _⟩

end

/-! ### Encoders -/

/-- The argument check of a reset (R182). -/
theorem partsResetRequest_eq (r : ResetRequest) : partsResetRequest r =
    networkParts r.cls 0 (if 7 < r.id.toNat then some (invalidArgument 6 r.id) else none) 1
      #v[r.id, 0, 0, 0, 0, 0, 0, 0] := by
  simp only [partsResetRequest, memWrite_byte, firstFailing, decide_eq_true_eq]
  rfl

/-- The argument checks of an ID change, in the order of R185. -/
def idChangeCheck (r : IdChangeRequest) : Option Err :=
  if r.old = 0 then some (invalidArgument 1 r.old)
  else if r.new = 0 then some (invalidArgument 2 r.new)
  else if r.old = r.new then some (invalidArgument 3 r.old)
  else if 7 < r.old.toNat then some (invalidArgument 4 r.old)
  else if 7 < r.new.toNat then some (invalidArgument 5 r.new)
  else none

theorem partsIdChangeRequest_eq (r : IdChangeRequest) : partsIdChangeRequest r =
    networkParts r.cls 2 (idChangeCheck r) 2 #v[r.old, r.new, 0, 0, 0, 0, 0, 0] := by
  simp only [partsIdChangeRequest, memWrite_byte, firstFailing, decide_eq_true_eq]
  rfl

theorem idChangeCheck_of_valid {r : IdChangeRequest} (hold : r.old ≠ 0) (hnew : r.new ≠ 0) (hne : r.old ≠ r.new)
    (holdLe : r.old.toNat ≤ 7) (hnewLe : r.new.toNat ≤ 7) : idChangeCheck r = none := by
  rw [idChangeCheck, if_neg hold, if_neg hnew, if_neg hne, if_neg (not_lt.2 holdLe), if_neg (not_lt.2 hnewLe)]

/-- The period 0 is the empty payload (R189). -/
theorem partsHeartbeatRequest_zero (c : BitVec 6) :
    partsHeartbeatRequest ⟨c, 0⟩ = networkParts c 7 none 0 #v[0, 0, 0, 0, 0, 0, 0, 0] := rfl

theorem partsHeartbeatRequest_of_ne {r : HeartbeatRequest} (h : r.periodMs ≠ 0) : partsHeartbeatRequest r =
    { networkParts r.cls 7 none 2 (memWrite .zero 0 2 r.periodMs.toNat) with
      range := if 65535 < r.periodMs.toNat then some (rangeOverflow 1) else none } := by
  simp only [partsHeartbeatRequest, if_neg h, firstFailing, decide_eq_true_eq]

/-- A period of 16 bits is in range (R189). -/
theorem partsHeartbeatRequest_u16 (c : BitVec 6) {p : U16} (h : p ≠ 0) : partsHeartbeatRequest ⟨c, p.setWidth 32⟩ =
    networkParts c 7 none 2 #v[p.extractLsb' 0 8, p.extractLsb' 8 8, 0, 0, 0, 0, 0, 0] := by
  have hvalue : (p.setWidth 32).toNat = p.toNat := BitVec.toNat_setWidth_of_le (by decide)
  have hne : p.setWidth 32 ≠ 0 := fun hzero => h (BitVec.eq_of_toNat_eq (by rw [← hvalue, hzero]; rfl))
  have hrange : ¬ 65535 < p.toNat := by have := p.isLt; omega
  rw [partsHeartbeatRequest_of_ne hne, hvalue, if_neg hrange, memWrite_u16]
  rfl

/-! ### The rows of the encoders -/

/-- The type field of a device frame or a poll (43_zeus.md R221). -/
theorem deviceType_toNat (hp : Bool) : (if hp then 1 else 2 : BitVec 2).toNat = if hp then 1 else 2 := by
  cases hp <;> rfl

section
variable {s : State} (hready : s.portReady) {o : EncOps} (hcap : o.cap.toNat ≤ 8) {c : BitVec 6} {n : BitVec 3}
  {len : ℕ} {d : Payload}
include hready hcap

theorem State.buildNetwork_frame (hroom : len ≤ o.cap.toNat) : s.buildMessage o (networkParts c n none len d)
    = .next (s.answered (frameAnswer 0 c.toNat n.toNat false (BitVec.ofNat 4 len) d)) := by
  rw [State.buildMessage_ready hready hcap, runParts_frame rfl (Parts.passes_node rfl o) rfl hroom rfl,
    frameAnswer_of_parts]
  rfl

theorem State.buildNetwork_of_check (e : Err) : s.buildMessage o (networkParts c n (some e) len d)
    = .next (s.answered ⟨0x1, raise e⟩) := by
  rw [State.buildMessage_ready hready hcap, runParts_of_check rfl (Parts.passes_node rfl o) rfl]

/-- The range check comes after the length check (45_dispatch.md R315, R316). -/
theorem State.buildNetwork_short (range : Option Err) (hroom : o.cap.toNat < len) :
    s.buildMessage o { networkParts c n none len d with range := range }
      = .next (s.answered (errorAnswer 0x1 1 false (o.cap.setWidth 32) (BitVec.ofNat 32 len))) := by
  rw [State.buildMessage_ready hready hcap, runParts_of_short rfl (Parts.passes_node rfl o) rfl hroom]
  rfl

theorem State.buildNetwork_of_range (e : Err) (hroom : len ≤ o.cap.toNat) :
    s.buildMessage o { networkParts c n none len d with range := some e }
      = .next (s.answered ⟨0x1, raise e⟩) := by
  rw [State.buildMessage_ready hready hcap, runParts_of_range rfl (Parts.passes_node rfl o) rfl hroom rfl]

end

theorem exec_encodeResetRequest (o : EncOps) (r : ResetRequest) (s : State) :
    exec (.encodeResetRequest o r) s = s.buildMessage o (partsResetRequest r) := rfl

theorem exec_encodeIdChangeRequest (o : EncOps) (r : IdChangeRequest) (s : State) :
    exec (.encodeIdChangeRequest o r) s = s.buildMessage o (partsIdChangeRequest r) := rfl

theorem exec_encodeHeartbeatRequest (o : EncOps) (r : HeartbeatRequest) (s : State) :
    exec (.encodeHeartbeatRequest o r) s = s.buildMessage o (partsHeartbeatRequest r) := rfl

theorem exec_encodeMessageRequest (o : EncOps) (r : MessageRequest) (s : State) :
    exec (.encodeMessageRequest o r) s = s.buildMessage o (partsMessageRequest s.cfg o r) := rfl

/-- A poll checks that its class is registered (R194). -/
theorem partsMessageRequest_check (cfg : Config) (o : EncOps) (r : MessageRequest) :
    (partsMessageRequest cfg o r).check = if (cfg.devRom r.cls).isNone then some (unknownClass r.cls) else none := rfl

end Sys2Proof.Machine
end

section
/-! PROOF. The statements of 42_network.md. -/

namespace Sys2Proof.Proofs
open Sys2Proof.Machine

/-- Settles O18: each row is one decoder that checks the length only. -/
theorem networkCommandsDecode : Obligations.NetworkCommandsDecode := by
  intro c x s hready hlen
  obtain ⟨hreset, hresetShort⟩ :=
    State.answerNet_of_atLeast hready hlen (k := .reset) (n := 0) (decodeReset_eq c x.len x.data)
  obtain ⟨hidChange, hidChangeShort⟩ :=
    State.answerNet_of_atLeast hready hlen (k := .idChange) (n := 2) (decodeIdChange_eq c x.len x.data)
  obtain ⟨hreport, hreportShort⟩ :=
    State.answerNet_of_atLeast hready hlen (c := c) (k := .errorReport) (n := 3) (decodeErrorReport_eq x.len x.data)
  refine ⟨hreset, fun hshort => ?_, hidChange, hidChangeShort, hreport, hreportShort⟩
  have hempty : x.len = 0 := BitVec.eq_of_toNat_eq (Nat.lt_one_iff.1 hshort)
  rw [hempty] at hresetShort
  exact hresetShort Nat.one_pos

/-- Settles O19: the empty payload by itself; any other is checked for two bytes. -/
theorem heartbeatRequestsDecode : Obligations.HeartbeatRequestsDecode := by
  intro c x s hready hlen
  have hnonempty (hne : x.len.toNat ≠ 0) := State.answerNet_of_atLeast hready hlen (k := .heartbeatRequest) (n := 7)
    (decodeHeartbeatRequest_of_nonempty hne c x.data)
  refine ⟨fun hempty => ?_, fun hone => ?_, fun htwo => (hnonempty (by omega)).1 htwo⟩
  · exact State.answerNet_of_ok hready hlen (k := .heartbeatRequest) (decodeHeartbeatRequest_of_empty hempty c x.data)
  · have hlenOne : x.len = 1 := BitVec.eq_of_toNat_eq hone
    have hshort := (hnonempty (by omega)).2 (by omega)
    rw [hlenOne] at hshort
    exact hshort

/-- Settles O20, length by length: one byte is too short, and any other length reaches some of the version bytes. -/
theorem heartbeatsDecodeByLength : Obligations.HeartbeatsDecodeByLength := by
  intro c n x s hready hlen version
  have hversion (hne : x.len.toNat ≠ 1) : exec (.parseHeartbeat c n x) s = version
      (if 2 ≤ x.len.toNat then x.data.byte 0 else 0) (if 2 ≤ x.len.toNat then x.data.byte 1 else 0)
      (if 3 ≤ x.len.toNat then x.data.byte 2 else 0) (if 4 ≤ x.len.toNat then x.data.byte 3 else 0) := by
    rw [exec_parseHeartbeat hready hlen, decodeHeartbeat_of_ne_one hne]
    rfl
  refine ⟨fun h => ?_, fun h => ?_, fun h => ?_, fun h => ?_, fun h => ?_⟩
  · rw [hversion (by omega), h]
    rfl
  · rw [exec_parseHeartbeat hready hlen, decodeHeartbeat_of_one h]
    rfl
  · rw [hversion (by omega), h]
    rfl
  · rw [hversion (by omega), h]
    rfl
  · have htwo : 2 ≤ x.len.toNat := by omega
    have hthree : 3 ≤ x.len.toNat := by omega
    rw [hversion (by omega), if_pos htwo, if_pos htwo, if_pos hthree, if_pos h]

/-- Settles O17, by the checks of the poll decoder in their order. -/
theorem pollsDecodeToMessageRequest : Obligations.PollsDecodeToMessageRequest := by
  intro c n x s hready hlen
  exact ⟨fun hempty hclass => exec_parseRtrPoll hready hlen (decodeRtr_of_registered n hempty hclass),
    fun hpayload => exec_parseRtrPoll hready hlen (decodeRtr_of_payload n hpayload),
    fun hempty hclass => exec_parseRtrPoll hready hlen (decodeRtr_of_unregistered n hempty hclass)⟩

/-- Settles O16: the key selects the network branch, or the extended reject; the sub-command has no NetROM entry. -/
theorem unknownNetworkCommands : Obligations.UnknownNetworkCommands := by
  intro c n x s hready
  refine ⟨netRom_eq_none_iff n, fun hlen hnone => ?_, fun hlen => ?_, fun hlen => ?_, fun hlong _ => ?_⟩
  · rw [exec_selectKey, State.answerParse_short hready hlen, keyBody_network, parseNet_of_none hnone]
    rfl
  · have hreject (e : Err) := State.rejectFrame_short hready hlen e
    exact ⟨hreject _, hreject _, hreject _, hreject _⟩
  · rw [exec_selectKey, State.answerParse_short hready hlen]
    rfl
  · rw [exec_selectKey, State.answerParse_long hready hlong]

/-- Settles O39: each encoder's parts are those of a network command, checked in the order of R351. -/
theorem networkCommandsEncode : Obligations.NetworkCommandsEncode := by
  intro o s hready hcap
  refine ⟨fun r hroom hid => ?_, fun r hid => ?_, fun r hroom hid => ?_, fun r hroom hold hnew hne holdLe hnewLe => ?_,
    fun c => ?_, fun c p hp hroom => ?_, fun r hp hroom => ?_, fun r hroom hbig => ?_⟩
  · rw [exec_encodeResetRequest, partsResetRequest_eq, if_neg (not_lt.2 hid)]
    exact State.buildNetwork_frame hready hcap hroom
  · rw [exec_encodeResetRequest, partsResetRequest_eq, if_pos hid]
    exact State.buildNetwork_of_check hready hcap _
  · have hzero : o.cap = 0 := BitVec.eq_of_toNat_eq (Nat.lt_one_iff.1 hroom)
    have hshort := State.buildNetwork_short hready hcap (c := r.cls) (n := 0) (d := #v[r.id, 0, 0, 0, 0, 0, 0, 0]) none
      hroom
    rw [exec_encodeResetRequest, partsResetRequest_eq, if_neg (not_lt.2 hid)]
    rwa [hzero] at hshort
  · rw [exec_encodeIdChangeRequest, partsIdChangeRequest_eq, idChangeCheck_of_valid hold hnew hne holdLe hnewLe]
    exact State.buildNetwork_frame hready hcap hroom
  · rw [exec_encodeHeartbeatRequest, partsHeartbeatRequest_zero]
    exact State.buildNetwork_frame hready hcap (Nat.zero_le _)
  · rw [exec_encodeHeartbeatRequest, partsHeartbeatRequest_u16 c hp]
    exact State.buildNetwork_frame hready hcap hroom
  · rw [exec_encodeHeartbeatRequest, partsHeartbeatRequest_of_ne hp]
    exact State.buildNetwork_short hready hcap _ hroom
  · have hp : r.periodMs ≠ 0 := by rintro hzero; simp [hzero] at hbig
    rw [exec_encodeHeartbeatRequest, partsHeartbeatRequest_of_ne hp, if_pos hbig]
    exact State.buildNetwork_of_range hready hcap _ hroom

/-- Settles O41: `idChangeCheck` names the first argument check that fails, and the length is checked where none does. -/
theorem argumentChecksComeFirst : Obligations.ArgumentChecksComeFirst := by
  intro o r s hready hcap refused
  have hrefused {reason : U32} {v : Byte} (hcheck : idChangeCheck r = some (invalidArgument reason v)) :
      refused reason v := by
    dsimp only [refused]
    rw [exec_encodeIdChangeRequest, partsIdChangeRequest_eq, hcheck]
    exact State.buildNetwork_of_check hready hcap _
  refine ⟨fun hold => hrefused ?_, fun hold hnew => hrefused ?_, fun hold hnew heq => hrefused ?_,
    fun hold hnew hne hbig => hrefused ?_, fun hold hnew hne holdLe hbig => hrefused ?_,
    fun hold hnew hne holdLe hnewLe hroom => ?_⟩
  · rw [idChangeCheck, if_pos hold, hold]
  · rw [idChangeCheck, if_neg hold, if_pos hnew, hnew]
  · rw [idChangeCheck, if_neg hold, if_neg hnew, if_pos heq]
  · rw [idChangeCheck, if_neg hold, if_neg hnew, if_neg hne, if_pos hbig]
  · rw [idChangeCheck, if_neg hold, if_neg hnew, if_neg hne, if_neg (not_lt.2 holdLe), if_pos hbig]
  · rw [exec_encodeIdChangeRequest, partsIdChangeRequest_eq, idChangeCheck_of_valid hold hnew hne holdLe hnewLe]
    exact State.buildNetwork_short hready hcap none hroom

/-- Settles O40, by the checks of ENCODE in their order: the node, then the class; an empty payload always has room. -/
theorem pollsEncode : Obligations.PollsEncode := by
  intro o r s hready hcap
  rw [exec_encodeMessageRequest, State.buildMessage_ready hready hcap]
  have hnodeOk (hnode : o.node.toNat ≤ 7) : ¬ ((partsMessageRequest s.cfg o r).nodeChecked = true ∧ 7 < o.node.toNat) :=
    fun h => not_lt.2 hnode h.2
  refine ⟨fun hnode hclass => ?_, fun hnode => ?_, fun hnode hclass => ?_⟩
  · have hregistered : ¬ (s.cfg.devRom r.cls).isNone = true := ne_true_of_eq_false (Option.isNone_eq_false_iff.2 hclass)
    have hcheck := (partsMessageRequest_check s.cfg o r).trans (if_neg hregistered)
    have hfield : (o.node.setWidth 3).toNat = o.node.toNat := by rw [BitVec.toNat_setWidth]; omega
    rw [runParts_frame rfl (hnodeOk hnode) hcheck (Nat.zero_le _) rfl, frameAnswer_of_parts, ← hfield,
      ← deviceType_toNat]
    rfl
  · rw [runParts_of_node rfl rfl hnode]
    rfl
  · have hcheck := (partsMessageRequest_check s.cfg o r).trans (if_pos hclass)
    rw [runParts_of_check rfl (hnodeOk hnode) hcheck]
    rfl

end Sys2Proof.Proofs
end

section
/-! SUPPORT. What a device row answers where DEV_CLASS_TABLE registers its message: the FRAME rows run the message's
decoder (43_zeus.md R220, 45_dispatch.md R308), the ENC rows the checks of a device message (43_zeus.md R221,
45_dispatch.md R313, R315). -/

namespace Sys2Proof.Machine

/-! ### Device frames -/

theorem payloadLen_le_eight (tml : TriggerModeLen) (k : DevKind) : k.payloadLen tml ≤ 8 := by
  cases k <;> cases tml <;> decide

/-- Every device decoder checks for its message's length before it reads a byte (43_zeus.md R220). -/
theorem decodeDevice_short {cfg : Config} {k : DevKind} {len : BitVec 4}
    (h : len.toNat < k.payloadLen cfg.triggerModeLen) (d : Payload) :
    decodeDevice cfg k len d = .error (bufferTooSmall len.toNat (k.payloadLen cfg.triggerModeLen)) := by
  cases k <;> exact atLeast_short h _

/-- PARSE of a data frame of type 1 or 2 takes the device branch (45_dispatch.md R301). -/
theorem exec_parse_device {f : Frame} (hext : f.ext = false) (hrtr : f.rtr = false)
    (htype : f.id.extractLsb' 9 2 = 1 ∨ f.id.extractLsb' 9 2 = 2) (s : State) :
    exec (.parse f) s = s.answerDevice (f.id.extractLsb' 9 2) (f.id.extractLsb' 3 6) (f.id.extractLsb' 0 3)
      ⟨f.id.extractLsb' 11 21, f.len, f.data⟩ := by
  rw [exec_parse, parseBody_eq_keyBody, hext, hrtr]
  obtain h | h := htype <;> rw [h] <;> rfl

section
variable {s : State} (hready : s.portReady) {c : BitVec 6} {k : DevKind} (hclass : s.cfg.devRom c = some k)
  {n : BitVec 3} {x : FrameTail}
include hready hclass

/-- The decoder that the table registers runs, and its errors are wrapped (R308). -/
theorem State.answerDevice_of_registered (hlen : x.len.toNat ≤ 8) (t : BitVec 2) : s.answerDevice t c n x
    = .next (s.answered ⟨0x0, parseAnswer (c.setWidth 8) (n.setWidth 8) t c n true
        (decodeDevice s.cfg k x.len x.data)⟩) := by
  rw [State.answerDevice, State.answerParse_short hready hlen, parseDevice, hclass]

/-- What a decoded record answers in a message's two rows, high-priority and standard. -/
theorem State.answerDevice_of_ok (hlen : x.len.toNat ≤ 8) {r : Record}
    (h : decodeDevice s.cfg k x.len x.data = .ok r) :
    s.answerDevice 1 c n x = .next (s.answered (deviceAnswer 1 c n r)) ∧
    s.answerDevice 2 c n x = .next (s.answered (deviceAnswer 2 c n r)) := by
  simp only [State.answerDevice_of_registered hready hclass hlen, h]
  exact ⟨rfl, rfl⟩

/-- What a decoder's error answers in both rows: the error, wrapped. -/
theorem State.answerDevice_of_error (hlen : x.len.toNat ≤ 8) {e : Err}
    (h : decodeDevice s.cfg k x.len x.data = .error e) :
    s.answerDevice 1 c n x = .next (s.answered ⟨0x0, e.body true⟩) ∧
    s.answerDevice 2 c n x = .next (s.answered ⟨0x0, e.body true⟩) := by
  simp only [State.answerDevice_of_registered hready hclass hlen, h]
  exact ⟨rfl, rfl⟩

theorem State.answerDevice_short (hshort : x.len.toNat < k.payloadLen s.cfg.triggerModeLen) (t : BitVec 2) :
    s.answerDevice t c n x = .next (s.answered (errorAnswer 0x0 1 true (x.len.setWidth 32)
      (BitVec.ofNat 32 (k.payloadLen s.cfg.triggerModeLen)))) := by
  have hlen : x.len.toNat ≤ 8 := hshort.le.trans (payloadLen_le_eight _ k)
  rw [State.answerDevice_of_registered hready hclass hlen, decodeDevice_short hshort, parseAnswer, body_bufferTooSmall]
  rfl

/-- The two rows of a registered message refuse a short frame alike (R220). -/
theorem deviceTooShort_of_registered {hp std : Instr} (hhp : exec hp s = s.answerDevice 1 c n x)
    (hstd : exec std s = s.answerDevice 2 c n x) : deviceTooShort s hp std x (k.payloadLen s.cfg.triggerModeLen) := by
  intro hshort
  rw [hhp, hstd]
  exact ⟨State.answerDevice_short hready hclass hshort 1, State.answerDevice_short hready hclass hshort 2⟩

end

/-! ### Device messages built -/

section
variable {s : State} {o : EncOps} {c : BitVec 6} {k : DevKind}

/-- A device row builds its own message where the table registers it at the row's tag (log entry 7). -/
theorem State.buildDevice_of_registered (hclass : s.cfg.devRom c = some k) (p : Parts) (raw : RawRecord) :
    s.buildDevice o c k p raw = s.buildMessage o p := if_pos hclass

variable (hready : s.portReady) (hcap : o.cap.toNat ≤ 8) (hclass : s.cfg.devRom c = some k) {raw : RawRecord}
include hready hcap hclass

/-- The frame of a device message: the type from `hp`, the class of the tag, the node operand (43_zeus.md R221). -/
theorem State.buildDevice_frame {len : ℕ} (hnode : o.node.toNat ≤ 7) (hroom : len ≤ o.cap.toNat) (d : Payload) :
    s.buildDevice o c k (deviceParts o c len d) raw = .next (s.answered (deviceFrame o c (BitVec.ofNat 4 len) d)) := by
  have hfield : (o.node.setWidth 3).toNat = o.node.toNat := by rw [BitVec.toNat_setWidth]; omega
  rw [State.buildDevice_of_registered hclass, State.buildMessage_ready hready hcap,
    runParts_frame rfl (fun h => not_lt.2 hnode h.2) rfl hroom rfl, frameAnswer_of_parts, deviceFrame, ← hfield,
    ← deviceType_toNat]
  rfl

/-- A fan status that is none is refused before any other check of the record (45_dispatch.md R312). -/
theorem State.buildDevice_of_enumFault {p : Parts} {idx : U32} (henum : p.enumFault = some idx) :
    s.buildDevice o c k p raw = .next (s.answered (errorAnswer 0x1 8 false 4 idx)) := by
  rw [State.buildDevice_of_registered hclass, State.buildMessage_ready hready hcap, runParts, henum]
  rfl

/-- The node and length checks of a device message, whatever range check follows them (R313, R315). -/
theorem encodeRefusals_of_registered {i : Instr} {p : Parts} (hi : exec i s = s.buildDevice o c k p raw)
    (henum : p.enumFault = none) (hchecked : p.nodeChecked = true) (hcheck : p.check = none) :
    encodeRefusals s i o p.len := by
  rw [encodeRefusals, hi, State.buildDevice_of_registered hclass, State.buildMessage_ready hready hcap]
  refine ⟨fun hnode => ?_, fun hnode hroom => ?_⟩
  · rw [runParts_of_node henum hchecked hnode]
    rfl
  · rw [runParts_of_short henum (fun h => not_lt.2 hnode h.2) hcheck hroom]
    rfl

end

end Sys2Proof.Machine
end

section
/-! PROOF. The statement of 43_zeus.md R220 for every device message. -/

namespace Sys2Proof.Proofs
open Sys2Proof.Machine

/-- Settles O29: the frame takes the device branch, where every decoder checks the length first. -/
theorem shortDeviceFramesAreRefused : Obligations.ShortDeviceFramesAreRefused := by
  intro k f s hready hext hrtr htype hclass hshort
  rw [exec_parse_device hext hrtr htype]
  exact State.answerDevice_short hready hclass hshort _

end Sys2Proof.Proofs
end

section
/-! SUPPORT. Words of bits as numbers and as fields side by side (20_memory.md R63, R64), and the words of a fan record
(43_zeus.md R222, R223). -/

namespace Sys2Proof.Machine

/-! ### Fields side by side -/

theorem toNat_append_eq_add {m n : ℕ} (x : BitVec m) (y : BitVec n) : (x ++ y).toNat = x.toNat * 2 ^ n + y.toNat := by
  rw [BitVec.toNat_append, ← Nat.shiftLeft_add_eq_or_of_lt y.isLt, Nat.shiftLeft_eq]

/-- The 64-bit word is the eight bytes, the first one lowest (20_memory.md R64). -/
theorem memRead64_eq (d : Payload) : memRead64 d
    = d.byte 7 ++ d.byte 6 ++ d.byte 5 ++ d.byte 4 ++ d.byte 3 ++ d.byte 2 ++ d.byte 1 ++ d.byte 0 := by
  apply BitVec.eq_of_toNat_eq
  have hbyte (k : ℕ) := (d.byte k).isLt
  have := hbyte 0; have := hbyte 1; have := hbyte 2; have := hbyte 3
  have := hbyte 4; have := hbyte 5; have := hbyte 6; have := hbyte 7
  simp only [memRead64, memRead, BitVec.toNat_ofNat, toNat_append_eq_add]
  simp only [Nat.reduceAdd]
  omega

/-- A read takes back what a write of as many bytes left, narrowed to them (00_scope.md R15). -/
theorem memRead_memWrite (d : Payload) {k n : ℕ} (h : k + n ≤ 8) (v : ℕ) :
    memRead (memWrite d k n v) k n = v % 256 ^ n := by
  induction n generalizing d k v with
  | zero => simp [memRead, Nat.mod_one]
  | succ n ih =>
    have hfirst : (memWrite d k (n + 1) v).byte k = BitVec.ofNat 8 v := by
      simpa using byte_memWrite_same d k (n + 1) v 0 (by omega) (by omega)
    rw [memRead, hfirst, memWrite, ih _ (by omega), Nat.pow_succ', Nat.mod_mul, BitVec.toNat_ofNat]

theorem memRead64_memWrite (d : Payload) (w : BitVec 64) : memRead64 (memWrite d 0 8 w.toNat) = w := by
  have hlt : w.toNat < 256 ^ 8 := w.isLt
  rw [memRead64, memRead_memWrite d (by decide), Nat.mod_eq_of_lt hlt, BitVec.ofNat_toNat, BitVec.setWidth_eq]

/-- The low bits of a number that has no others, at any width. -/
theorem setWidth_extractLsb'_of_lt {n m : ℕ} {u : BitVec n} (h : u.toNat < 2 ^ m) (w : ℕ) :
    (u.extractLsb' 0 m).setWidth w = u.setWidth w := by
  apply BitVec.eq_of_toNat_eq
  simp [Nat.mod_eq_of_lt h]

/-- The two dividers of a PD block are the halves of its byte (30_encoding.md R109). -/
theorem low_nibble (b : Byte) : (b.extractLsb' 0 4).setWidth 8 = b % 16 := by
  apply BitVec.eq_of_toNat_eq
  simp only [BitVec.toNat_setWidth, BitVec.extractLsb'_toNat, BitVec.toNat_umod, BitVec.reduceToNat,
    Nat.shiftRight_zero]
  omega

theorem high_nibble (b : Byte) : (b.extractLsb' 4 4).setWidth 8 = b / 16 := by
  apply BitVec.eq_of_toNat_eq
  have := b.isLt
  simp only [BitVec.toNat_setWidth, BitVec.extractLsb'_toNat, BitVec.toNat_udiv, BitVec.reduceToNat,
    Nat.shiftRight_eq_div_pow]
  omega

/-- Two dividers of at most 15 share a byte without overlap (R109). -/
theorem nibbles_or_eq_add {hi lo : Byte} (hhi : hi.toNat ≤ 15) (hlo : lo.toNat ≤ 15) :
    (hi <<< 4) ||| lo = hi * 16 + lo := by
  apply BitVec.eq_of_toNat_eq
  have hsum := Nat.shiftLeft_add_eq_or_of_lt (show lo.toNat < 2 ^ 4 by omega) hi.toNat
  rw [Nat.shiftLeft_eq] at hsum
  have hfits : hi.toNat * 2 ^ 4 < 2 ^ 8 := by omega
  rw [BitVec.toNat_or, BitVec.toNat_shiftLeft, Nat.shiftLeft_eq, Nat.mod_eq_of_lt hfits, ← hsum]
  simp only [BitVec.toNat_add, BitVec.toNat_mul, BitVec.reduceToNat]
  omega

/-! ### Fan words -/

theorem fanDecode_rpm (w : U16) : (fanDecode w).rpm.toNat = w.toNat % 2 ^ 14 := by
  simp [fanDecode]

/-- Stalled first, then aging (43_zeus.md R222): the status is the range that the word lies in. -/
theorem fanDecode_fstatus (w : U16) :
    (fanDecode w).fstatus = if 2 ^ 15 ≤ w.toNat then 2 else if 2 ^ 14 ≤ w.toNat then 1 else 0 := by
  have := w.isLt
  have h15 : w.getLsbD 15 = true ↔ 2 ^ 15 ≤ w.toNat := by
    rw [BitVec.getLsbD, Nat.testBit_eq_decide_div_mod_eq, decide_eq_true_eq]; omega
  have h14 (hlt : ¬ 2 ^ 15 ≤ w.toNat) : w.getLsbD 14 = true ↔ 2 ^ 14 ≤ w.toNat := by
    rw [BitVec.getLsbD, Nat.testBit_eq_decide_div_mod_eq, decide_eq_true_eq]; omega
  by_cases hstalled : 2 ^ 15 ≤ w.toNat
  · simp only [fanDecode, if_pos hstalled, if_pos (h15.2 hstalled)]
  · simp only [fanDecode, if_neg hstalled, if_neg (mt h15.1 hstalled), h14 hstalled]

/-- A status is the two bits above the rpm, of which none or one is set (43_zeus.md R223). -/
theorem fanEncode_eq_append {f : Fan} (h : f.fstatus ≠ 3) : fanEncode f = f.fstatus ++ f.rpm := by
  have hor : f.fstatus ++ f.rpm = f.fstatus.setWidth 16 <<< 14 ||| f.rpm.setWidth 16 := by
    rw [← BitVec.setWidth_append_eq_shiftLeft_setWidth_or, BitVec.setWidth_eq]
  rw [hor, fanEncode]
  congr 1
  obtain hst | hst | hst | hst := type_cases f.fstatus
  · rw [hst]; rfl
  · rw [hst]; rfl
  · rw [hst]; rfl
  · exact absurd hst h

theorem fanEncode_toNat {f : Fan} (h : f.fstatus ≠ 3) :
    (fanEncode f).toNat = f.fstatus.toNat * 2 ^ 14 + f.rpm.toNat := by
  rw [fanEncode_eq_append h, toNat_append_eq_add]

/-- A valid record comes back: its word lies in the range of its status. -/
theorem fanDecode_fanEncode {f : Fan} (h : f.fstatus ≠ 3) : fanDecode (fanEncode f) = f := by
  have hrpm := f.rpm.isLt
  have hword := fanEncode_toNat h
  have hrpmBack : (fanDecode (fanEncode f)).rpm = f.rpm := by
    apply BitVec.eq_of_toNat_eq
    rw [fanDecode_rpm, hword]
    omega
  have hstatusBack : (fanDecode (fanEncode f)).fstatus = f.fstatus := by
    rw [fanDecode_fstatus, hword]
    obtain hst | hst | hst | hst := type_cases f.fstatus
    · rw [hst, if_neg (by simp; omega), if_neg (by simpa using hrpm)]
    · rw [hst, if_neg (by simp; omega), if_pos (by simp)]
    · rw [hst, if_pos (by simp)]
    · exact absurd hst h
  cases f
  exact congrArg₂ Fan.mk hstatusBack hrpmBack

end Sys2Proof.Machine
end

section
/-! PROOF. The statements of 43_zeus.md R222 and R223. -/

namespace Sys2Proof.Proofs
open Sys2Proof.Machine

/-- Settles O44: the status that a word decodes to is its range, and a record's word is its two fields side by side. -/
theorem fanWordsRoundTrip : Obligations.FanWordsRoundTrip := by
  refine ⟨fun w => ⟨fanDecode_rpm w, ?_⟩, fun f h => ⟨fanDecode_fanEncode h, ?_⟩⟩
  · rw [fanDecode_fstatus]
    split_ifs with hstalled haging
    · exact ⟨iff_of_true rfl hstalled, iff_of_false (by decide) (by omega), iff_of_false (by decide) (by omega)⟩
    · exact ⟨iff_of_false (by decide) hstalled, iff_of_true rfl (by omega), iff_of_false (by decide) (by omega)⟩
    · exact ⟨iff_of_false (by decide) hstalled, iff_of_false (by decide) (by omega), iff_of_true rfl (by omega)⟩
  · rw [fanEncode_toNat h]
    congr 1
    obtain hst | hst | hst | hst := type_cases f.fstatus
    · simp [hst]
    · simp [hst]
    · simp [hst]
    · exact absurd hst h

end Sys2Proof.Proofs
end

section
/-! SUPPORT. The decoders of the climate controller's messages, in terms of the payload's bytes (43_zeus.md R224 to
R235). -/

namespace Sys2Proof.Machine

/-! ### Messages that check the length only -/

theorem pdDecode_eq (d : Payload) (b : ℕ) :
    pdDecode d b = ⟨d.byte b, d.byte (b + 1), d.byte (b + 2), d.byte (b + 3) % 16, d.byte (b + 3) / 16⟩ := by
  simp only [pdDecode, memRead8_eq, low_nibble, high_nibble]

theorem decodeZeusConfig_eq (len : BitVec 4) (d : Payload) : decodeZeusConfig len d = atLeast len 8 (.ok (.zeusConfig
    ⟨⟨d.byte 0, d.byte 1, d.byte 2, d.byte 3 % 16, d.byte 3 / 16⟩,
     ⟨d.byte 4, d.byte 5, d.byte 6, d.byte 7 % 16, d.byte 7 / 16⟩⟩)) := by
  rw [decodeZeusConfig, pdDecode_eq, pdDecode_eq]

theorem decodeZeusStatus_eq (len : BitVec 4) (d : Payload) : decodeZeusStatus len d = atLeast len 7 (.ok (.zeusStatus
    ⟨d.byte 0, fanDecode (d.byte 2 ++ d.byte 1), fanDecode (d.byte 4 ++ d.byte 3),
     fanDecode (d.byte 6 ++ d.byte 5)⟩)) := by
  simp only [decodeZeusStatus, memRead8_eq, memRead16_eq]

theorem decodeZeusControlPoint_eq (len : BitVec 4) (d : Payload) : decodeZeusControlPoint len d
    = atLeast len 4 (.ok (.zeusControlPoint ⟨d.byte 1 ++ d.byte 0, d.byte 3 ++ d.byte 2⟩)) := by
  simp only [decodeZeusControlPoint, memRead16_eq]

theorem decodeZeusDeltaTemperature_eq (len : BitVec 4) (d : Payload) : decodeZeusDeltaTemperature len d
    = atLeast len 8 (.ok (.zeusDeltaTemperature
        ⟨binToDeltaH (d.byte 1 ++ d.byte 0), binToDeltaT (d.byte 3 ++ d.byte 2), binToDeltaT (d.byte 5 ++ d.byte 4),
         binToDeltaT (d.byte 7 ++ d.byte 6)⟩)) := by
  simp only [decodeZeusDeltaTemperature, memRead16_eq]

/-! ### Messages with a humidity and a temperature word -/

/-- The record of a humidity and a temperature word, or the error of the first that is invalid (R224, R226). -/
def sensorsChecked (h t : U16) (rec : F32 → F32 → Record) : Except Err Record :=
  if (binToHum h).2 then .error (invalidSensorValue 0)
  else if (binToTemp t).2 then .error (invalidSensorValue 1)
  else .ok (rec (binToHum h).1 (binToTemp t).1)

section
variable {h t : U16} (rec : F32 → F32 → Record)

theorem sensorsChecked_of_humidity (hh : 16382 < h.toNat) :
    sensorsChecked h t rec = .error (invalidSensorValue 0) := by
  rw [sensorsChecked, binToHum_of_gt hh, if_pos rfl]

theorem sensorsChecked_of_temperature (hh : h.toNat ≤ 16382) (ht : 16382 < t.toNat) :
    sensorsChecked h t rec = .error (invalidSensorValue 1) := by
  rw [sensorsChecked, binToHum_of_le hh, binToTemp_of_gt ht, if_neg Bool.false_ne_true, if_pos rfl]

theorem sensorsChecked_of_valid (hh : h.toNat ≤ 16382) (ht : t.toNat ≤ 16382) : sensorsChecked h t rec
    = .ok (rec (rne32 (h.toNat * 100) 16382) (rne32 ((t.toNat : ℤ) * 165 - 655280) 16382)) := by
  rw [sensorsChecked, binToHum_of_le hh, binToTemp_of_le ht, if_neg Bool.false_ne_true, if_neg Bool.false_ne_true]

end

theorem decodeZeusSetPoint_eq (len : BitVec 4) (d : Payload) : decodeZeusSetPoint len d
    = atLeast len 5 (sensorsChecked (d.byte 1 ++ d.byte 0) (d.byte 3 ++ d.byte 2)
        fun h t => .zeusSetPoint ⟨h, t, d.byte 4⟩) := by
  simp only [decodeZeusSetPoint, memRead8_eq, memRead16_eq]
  rfl

/-- The report by the five fields of its 64-bit word (R226). -/
theorem decodeZeusReport_eq {d : Payload} {h t : BitVec 14} {a0 a1 a2 : BitVec 12}
    (hword : memRead64 d = a2 ++ a1 ++ a0 ++ t ++ h) (len : BitVec 4) : decodeZeusReport len d
    = atLeast len 8 (sensorsChecked (h.setWidth 16) (t.setWidth 16)
        fun hum temp => .zeusReport ⟨hum, temp, rne32 a0.toInt 16, rne32 a1.toInt 16, rne32 a2.toInt 16⟩) := by
  have hfields : (memRead64 d).extractLsb' 0 14 = h ∧ (memRead64 d).extractLsb' 14 14 = t ∧
      (memRead64 d).extractLsb' 28 12 = a0 ∧ (memRead64 d).extractLsb' 40 12 = a1 ∧
      (memRead64 d).extractLsb' 52 12 = a2 := by
    rw [hword]
    simp (disch := decide) only [BitVec.extractLsb'_append_eq_of_le, BitVec.extractLsb'_append_eq_right,
      BitVec.extractLsb'_eq_self, Nat.reduceSub, and_self]
  obtain ⟨hh, ht, h0, h1, h2⟩ := hfields
  have htmp (a : BitVec 12) : binToTmp (a.setWidth 16) = rne32 a.toInt 16 := by
    simp (disch := decide) only [binToTmp, BitVec.extractLsb'_setWidth_of_le, BitVec.extractLsb'_eq_self]
  simp only [decodeZeusReport, hh, ht, h0, h1, h2, htmp]
  rfl

/-- A 14-bit field is over 16382 only where it is all ones (R226). -/
theorem toNat_setWidth_le_of_ne_allOnes {v : BitVec 14} (h : v.toNat ≠ 16383) : (v.setWidth 16).toNat ≤ 16382 := by
  have := v.isLt
  rw [BitVec.toNat_setWidth_of_le (by decide)]
  omega

theorem lt_toNat_setWidth_of_eq_allOnes {v : BitVec 14} (h : v.toNat = 16383) : 16382 < (v.setWidth 16).toNat := by
  rw [BitVec.toNat_setWidth_of_le (by decide)]
  omega

end Sys2Proof.Machine
end

section
/-! PROOF. The statements of 43_zeus.md R224 to R235 on the decoders. -/

namespace Sys2Proof.Proofs
open Sys2Proof.Machine

/-- Settles O24: each message's two rows run one decoder that checks the length only. -/
theorem zeusIntegerMessagesDecode : Obligations.ZeusIntegerMessagesDecode := by
  intro n x s hready hlen
  refine ⟨fun hclass henough => ?_, fun hclass henough => ?_, fun hclass henough => ?_,
    fun hclass => deviceTooShort_of_registered hready hclass rfl rfl,
    fun hclass => deviceTooShort_of_registered hready hclass rfl rfl,
    fun hclass => deviceTooShort_of_registered hready hclass rfl rfl⟩
  · exact State.answerDevice_of_ok hready hclass hlen ((decodeZeusConfig_eq ..).trans (atLeast_enough henough _))
  · exact State.answerDevice_of_ok hready hclass hlen ((decodeZeusStatus_eq ..).trans (atLeast_enough henough _))
  · exact State.answerDevice_of_ok hready hclass hlen ((decodeZeusControlPoint_eq ..).trans (atLeast_enough henough _))

/-- Settles O25, by the two sensor checks in their order. -/
theorem zeusSetPointDecodes : Obligations.ZeusSetPointDecodes := by
  intro n x s hready hlen hclass h t
  have hdecode (henough : 5 ≤ x.len.toNat) := (decodeZeusSetPoint_eq x.len x.data).trans (atLeast_enough henough _)
  refine ⟨deviceTooShort_of_registered hready hclass rfl rfl, fun henough hh ht => ?_, fun henough hh => ?_,
    fun henough hh ht => ?_⟩
  · exact State.answerDevice_of_ok hready hclass hlen ((hdecode henough).trans (sensorsChecked_of_valid _ hh ht))
  · exact State.answerDevice_of_error hready hclass hlen ((hdecode henough).trans (sensorsChecked_of_humidity _ hh))
  · exact State.answerDevice_of_error hready hclass hlen
      ((hdecode henough).trans (sensorsChecked_of_temperature _ hh ht))

/-- Settles O26: the bytes' word is read field by field, and then the sensor checks are those of a set point. -/
theorem zeusReportDecodes : Obligations.ZeusReportDecodes := by
  intro n x s h t a0 a1 a2 hready hlen hclass hword
  have hdecode (hfull : x.len.toNat = 8) := (decodeZeusReport_eq ((memRead64_eq x.data).trans hword) x.len).trans
    (atLeast_enough hfull.ge _)
  refine ⟨deviceTooShort_of_registered hready hclass rfl rfl, fun hfull hh ht => ?_, fun hfull hh => ?_,
    fun hfull hh ht => ?_⟩
  · have hok := (hdecode hfull).trans
      (sensorsChecked_of_valid _ (toNat_setWidth_le_of_ne_allOnes hh) (toNat_setWidth_le_of_ne_allOnes ht))
    simp only [BitVec.toNat_setWidth_of_le (show 14 ≤ 16 by decide)] at hok
    exact State.answerDevice_of_ok hready hclass hlen hok
  · exact State.answerDevice_of_error hready hclass hlen
      ((hdecode hfull).trans (sensorsChecked_of_humidity _ (lt_toNat_setWidth_of_eq_allOnes hh)))
  · exact State.answerDevice_of_error hready hclass hlen
      ((hdecode hfull).trans (sensorsChecked_of_temperature _ (toNat_setWidth_le_of_ne_allOnes hh)
        (lt_toNat_setWidth_of_eq_allOnes ht)))

/-- Settles O27: the decoder checks the length only, and each element is one rounding of its signed word (R146). -/
theorem zeusDeltaTemperatureDecodes : Obligations.ZeusDeltaTemperatureDecodes := by
  intro n x s hready hlen hclass w r
  refine ⟨deviceTooShort_of_registered hready hclass rfl rfl, fun hfull => ?_⟩
  exact State.answerDevice_of_ok hready hclass hlen
    ((decodeZeusDeltaTemperature_eq ..).trans (atLeast_enough hfull.ge _))

end Sys2Proof.Proofs
end

section
/-! SUPPORT. The encoders of the climate controller's messages: the parts of a device message, its payload written out
byte by byte (43_zeus.md R225 to R236). -/

namespace Sys2Proof.Machine

/-! ### Integer fields -/

/-- Dividers of at most 15 are in range, and a PD block is four bytes (R230). -/
theorem partsZeusConfig_of_inRange {r : ZeusConfig} (h3 : r.pd0.divPd.toNat ≤ 15) (h4 : r.pd0.divI.toNat ≤ 15)
    (h8 : r.pd1.divPd.toNat ≤ 15) (h9 : r.pd1.divI.toNat ≤ 15) (o : EncOps) (c : BitVec 6) : partsZeusConfig o c r
    = deviceParts o c 8 #v[r.pd0.prop, r.pd0.deriv, r.pd0.integ, r.pd0.divI * 16 + r.pd0.divPd,
        r.pd1.prop, r.pd1.deriv, r.pd1.integ, r.pd1.divI * 16 + r.pd1.divPd] := by
  simp only [partsZeusConfig, firstFailing, decide_eq_true_eq, if_neg (not_lt.2 h3), if_neg (not_lt.2 h4),
    if_neg (not_lt.2 h8), if_neg (not_lt.2 h9), pdEncode, memWrite_byte, nibbles_or_eq_add h4 h3,
    nibbles_or_eq_add h9 h8]
  rfl

theorem firstBadFan_cons_bad {idx : U32} {f : Fan} (h : f.fstatus = 3) (l : List (U32 × Fan)) :
    firstBadFan ((idx, f) :: l) = some idx := if_pos h

theorem firstBadFan_cons_valid {idx : U32} {f : Fan} (h : f.fstatus ≠ 3) (l : List (U32 × Fan)) :
    firstBadFan ((idx, f) :: l) = firstBadFan l := if_neg h

/-- Fans with valid statuses pass the enum check (R232, 45_dispatch.md R312). -/
theorem partsZeusStatus_of_valid {r : ZeusStatus} (h0 : r.fan0.fstatus ≠ 3) (h1 : r.fan1.fstatus ≠ 3)
    (h2 : r.fan2.fstatus ≠ 3) (o : EncOps) (c : BitVec 6) : partsZeusStatus o c r
    = deviceParts o c 7 #v[r.status, (fanEncode r.fan0).extractLsb' 0 8, (fanEncode r.fan0).extractLsb' 8 8,
        (fanEncode r.fan1).extractLsb' 0 8, (fanEncode r.fan1).extractLsb' 8 8,
        (fanEncode r.fan2).extractLsb' 0 8, (fanEncode r.fan2).extractLsb' 8 8, 0] := by
  rw [partsZeusStatus, firstBadFan_cons_valid h0, firstBadFan_cons_valid h1, firstBadFan_cons_valid h2, firstBadFan]
  simp only [memWrite_byte, memWrite_u16]
  rfl

theorem partsZeusControlPoint_eq (o : EncOps) (c : BitVec 6) (r : ZeusControlPoint) : partsZeusControlPoint o c r
    = deviceParts o c 4 #v[r.humidity.extractLsb' 0 8, r.humidity.extractLsb' 8 8, r.temperature.extractLsb' 0 8,
        r.temperature.extractLsb' 8 8, 0, 0, 0, 0] := by
  simp only [partsZeusControlPoint, memWrite_u16]
  rfl

/-! ### Fixed-point fields -/

theorem humToBin_le (f : F32) : (humToBin f).toNat ≤ 16382 := humToBin_eq f ▸ clampedScale_le ..

theorem tempToBin_le (f : F32) : (tempToBin f).toNat ≤ 16382 := tempToBin_eq f ▸ clampedScale_le ..

theorem partsZeusSetPoint_eq (o : EncOps) (c : BitVec 6) (r : ZeusSetPoint) : partsZeusSetPoint o c r
    = deviceParts o c 5 #v[(humToBin r.humidity).extractLsb' 0 8, (humToBin r.humidity).extractLsb' 8 8,
        (tempToBin r.temperature).extractLsb' 0 8, (tempToBin r.temperature).extractLsb' 8 8, r.wind, 0, 0, 0] := by
  simp only [partsZeusSetPoint, memWrite_byte, memWrite_u16]
  rfl

theorem partsZeusDeltaTemperature_eq (o : EncOps) (c : BitVec 6) (r : ZeusDeltaTemperature) :
    partsZeusDeltaTemperature o c r
      = deviceParts o c 8 #v[(deltaHToBin r.delta0).extractLsb' 0 8, (deltaHToBin r.delta0).extractLsb' 8 8,
          (deltaTToBin r.delta1).extractLsb' 0 8, (deltaTToBin r.delta1).extractLsb' 8 8,
          (deltaTToBin r.delta2).extractLsb' 0 8, (deltaTToBin r.delta2).extractLsb' 8 8,
          (deltaTToBin r.delta3).extractLsb' 0 8, (deltaTToBin r.delta3).extractLsb' 8 8] := by
  simp only [partsZeusDeltaTemperature, memWrite_u16]
  rfl

theorem or_reverse_five {w : ℕ} (u v x y z : BitVec w) : u ||| v ||| x ||| y ||| z = z ||| y ||| x ||| v ||| u := by
  ac_rfl

/-- Five fields of 14, 14, 12, 12 and 12 bits, each shifted to its place, are the fields side by side. -/
theorem shifted_fields_eq_append (h t : BitVec 14) (a0 a1 a2 : BitVec 12) :
    h.setWidth 64 ||| (t.setWidth 64 <<< 14) ||| (a0.setWidth 64 <<< 28) ||| (a1.setWidth 64 <<< 40)
      ||| (a2.setWidth 64 <<< 52) = (a2 ++ a1 ++ a0 ++ t ++ h).setWidth 64 := by
  simp only [BitVec.setWidth_append_eq_shiftLeft_setWidth_or, BitVec.shiftLeft_or_distrib, ← BitVec.shiftLeft_add]
  exact or_reverse_five _ _ _ _ _

/-- The fields of a report do not overlap: HumToBin and TempToBin give numbers below 2^14 (R227). -/
theorem zeusReportWord_eq (r : ZeusReport) : zeusReportWord r
    = tmpToBin r.aux2 ++ tmpToBin r.aux1 ++ tmpToBin r.aux0 ++ (tempToBin r.temperature).extractLsb' 0 14
        ++ (humToBin r.humidity).extractLsb' 0 14 := by
  have hlow {u : U16} (hu : u.toNat ≤ 16382) : (u.extractLsb' 0 14).setWidth 64 = u.setWidth 64 :=
    setWidth_extractLsb'_of_lt (by omega) 64
  have happend := shifted_fields_eq_append ((humToBin r.humidity).extractLsb' 0 14)
    ((tempToBin r.temperature).extractLsb' 0 14) (tmpToBin r.aux0) (tmpToBin r.aux1) (tmpToBin r.aux2)
  rw [hlow (humToBin_le _), hlow (tempToBin_le _)] at happend
  exact happend.trans (BitVec.setWidth_eq _)

/-! ### The rows of the encoders -/

theorem exec_encodeZeusConfig (o : EncOps) (r : ZeusConfig) (s : State) : exec (.encodeZeusConfig o r) s
    = s.buildDevice o 0x3B .zeusConfig (partsZeusConfig o 0x3B r) (rawRecord (putZeusConfig r 0)) := rfl

theorem exec_encodeZeusStatus (o : EncOps) (r : ZeusStatus) (s : State) : exec (.encodeZeusStatus o r) s
    = s.buildDevice o 0x3C .zeusStatus (partsZeusStatus o 0x3C r) (rawRecord (putZeusStatus r 0)) := rfl

theorem exec_encodeZeusControlPoint (o : EncOps) (r : ZeusControlPoint) (s : State) :
    exec (.encodeZeusControlPoint o r) s = s.buildDevice o 0x3D .zeusControlPoint (partsZeusControlPoint o 0x3D r)
      (rawRecord (putZeusControlPoint r 0)) := rfl

theorem exec_encodeZeusSetPoint (o : EncOps) (r : ZeusSetPoint) (s : State) : exec (.encodeZeusSetPoint o r) s
    = s.buildDevice o 0x38 .zeusSetPoint (partsZeusSetPoint o 0x38 r) (rawRecord (putZeusSetPoint r 0)) := rfl

theorem exec_encodeZeusReport (o : EncOps) (r : ZeusReport) (s : State) : exec (.encodeZeusReport o r) s
    = s.buildDevice o 0x39 .zeusReport (partsZeusReport o 0x39 r) (rawRecord (putZeusReport r 0)) := rfl

theorem exec_encodeZeusDeltaTemperature (o : EncOps) (r : ZeusDeltaTemperature) (s : State) :
    exec (.encodeZeusDeltaTemperature o r) s = s.buildDevice o 0x3E .zeusDeltaTemperature
      (partsZeusDeltaTemperature o 0x3E r) (rawRecord (putZeusDeltaTemperature r 0)) := rfl

end Sys2Proof.Machine
end

section
/-! PROOF. The statements of 43_zeus.md R225 to R236 on the encoders. -/

namespace Sys2Proof.Proofs
open Sys2Proof.Machine

/-- Settles O37: the parts are those of a device message; the fan statuses are checked before its two checks and the
dividers after them. -/
theorem zeusIntegerMessagesEncode : Obligations.ZeusIntegerMessagesEncode := by
  intro o s hready hcap
  refine ⟨fun r hclass hnode hroom h3 h4 h8 h9 => ?_, fun r hclass hnode hroom h0 h1 h2 => ?_,
    fun r hclass hnode hroom => ?_, fun r hclass => ?_, fun r hclass h0 h1 h2 => ?_,
    fun r hclass => ⟨fun h0 => ?_, fun h0 h1 => ?_, fun h0 h1 h2 => ?_⟩, fun r hclass => ?_⟩
  · rw [exec_encodeZeusConfig, partsZeusConfig_of_inRange h3 h4 h8 h9]
    exact State.buildDevice_frame hready hcap hclass hnode hroom _
  · rw [exec_encodeZeusStatus, partsZeusStatus_of_valid h0 h1 h2]
    exact State.buildDevice_frame hready hcap hclass hnode hroom _
  · rw [exec_encodeZeusControlPoint, partsZeusControlPoint_eq]
    exact State.buildDevice_frame hready hcap hclass hnode hroom _
  · exact encodeRefusals_of_registered hready hcap hclass (p := partsZeusConfig o 0x3B r) rfl rfl rfl rfl
  · exact encodeRefusals_of_registered hready hcap hclass (p := partsZeusStatus o 0x3C r) rfl
      (partsZeusStatus_of_valid h0 h1 h2 o 0x3C ▸ rfl) rfl rfl
  · exact State.buildDevice_of_enumFault hready hcap hclass (firstBadFan_cons_bad h0 _)
  · exact State.buildDevice_of_enumFault hready hcap hclass
      ((firstBadFan_cons_valid h0 _).trans (firstBadFan_cons_bad h1 _))
  · exact State.buildDevice_of_enumFault hready hcap hclass
      ((firstBadFan_cons_valid h0 _).trans ((firstBadFan_cons_valid h1 _).trans (firstBadFan_cons_bad h2 _)))
  · exact encodeRefusals_of_registered hready hcap hclass (p := partsZeusControlPoint o 0x3D r) rfl rfl rfl rfl

/-- Settles O38: the payloads are the words of the conversions, and a report's bytes are its 64-bit word. -/
theorem zeusFixedPointMessagesEncode : Obligations.ZeusFixedPointMessagesEncode := by
  intro o s hready hcap
  refine ⟨fun r hclass hnode hroom => ?_, fun r hclass hnode hroom => ?_, fun r hclass hnode hroom => ?_,
    fun r hclass => ?_, fun r hclass => ?_, fun r hclass => ?_⟩
  · rw [exec_encodeZeusSetPoint, partsZeusSetPoint_eq]
    exact State.buildDevice_frame hready hcap hclass hnode hroom _
  · refine ⟨_, State.buildDevice_frame hready hcap hclass hnode hroom.ge _, ?_, humToBin_le _, tempToBin_le _⟩
    rw [← memRead64_eq, memRead64_memWrite, zeusReportWord_eq]
  · rw [exec_encodeZeusDeltaTemperature, partsZeusDeltaTemperature_eq]
    exact State.buildDevice_frame hready hcap hclass hnode hroom.ge _
  · exact encodeRefusals_of_registered hready hcap hclass (p := partsZeusSetPoint o 0x38 r) rfl rfl rfl rfl
  · exact encodeRefusals_of_registered hready hcap hclass (p := partsZeusReport o 0x39 r) rfl rfl rfl rfl
  · exact encodeRefusals_of_registered hready hcap hclass (p := partsZeusDeltaTemperature o 0x3E r) rfl rfl rfl rfl

end Sys2Proof.Proofs
end

section
/-! SUPPORT. The messages of the illumination unit, the humidifier and the heater: the record that each decoder makes of
the payload's bytes, and the payload that each encoder writes, byte by byte (44_helios_celaeno_notus.md R260 to R275). -/

namespace Sys2Proof.Machine

/-! ### What the rows share -/

/-- The two rows of a registered message answer its record wherever the frame has the message's length (43_zeus.md R220). -/
theorem State.answerDevice_of_atLeast {s : State} (hready : s.portReady) {c : BitVec 6} {k : DevKind}
    (hclass : s.cfg.devRom c = some k) {n : BitVec 3} {x : FrameTail} (hlen : x.len.toNat ≤ 8) {need : ℕ} {r : Record}
    (h : decodeDevice s.cfg k x.len x.data = atLeast x.len need (.ok r)) (henough : need ≤ x.len.toNat) :
    s.answerDevice 1 c n x = .next (s.answered (deviceAnswer 1 c n r)) ∧
    s.answerDevice 2 c n x = .next (s.answered (deviceAnswer 2 c n r)) :=
  State.answerDevice_of_ok hready hclass hlen (h.trans (atLeast_enough henough _))

/-- The row of a registered message builds the frame of its parts, once the node and length checks pass (R221). -/
theorem State.buildDevice_of_parts {s : State} (hready : s.portReady) {o : EncOps} (hcap : o.cap.toNat ≤ 8)
    {c : BitVec 6} {k : DevKind} (hclass : s.cfg.devRom c = some k) (hnode : o.node.toNat ≤ 7) {len : ℕ}
    (hroom : len ≤ o.cap.toNat) {p : Parts} {d : Payload} (hp : p = deviceParts o c len d) (raw : RawRecord) :
    s.buildDevice o c k p raw = .next (s.answered (deviceFrame o c (BitVec.ofNat 4 len) d)) := by
  rw [hp]
  exact State.buildDevice_frame hready hcap hclass hnode hroom d

/-- A record of at most 160 bits is read back from a request's raw bits as it was written (log entry 4). -/
theorem read_rawRecord {α : Type} {read : Bits α} {put : α → ℕ → ℕ} {r : α} (hread : read.read (put r 0) = (r, 0))
    (hfits : FitsIn 160 (put r 0)) : (read.read (rawRecord (put r 0)).toNat).1 = r := by
  rw [rawRecord, BitVec.toNat_ofNat, Nat.mod_eq_of_lt hfits, hread]

/-- ENCODE of a registered tag is the row whose parts are those of the record in the request's bits (R221). -/
theorem exec_encode_of_rawParts {s : State} {c : BitVec 6} {k : DevKind} (hclass : s.cfg.devRom c = some k)
    {o : EncOps} {raw : RawRecord} {p : Parts} (hparts : rawDeviceParts s.cfg o c k raw = p) :
    exec (.encode o (c.setWidth 8) raw) s = s.buildDevice o c k p raw := by
  rw [← hparts]
  exact exec_encode_device hclass o raw raw

/-! ### Notus -/

theorem decodeNotusSetPoint_eq (len : BitVec 4) (d : Payload) :
    decodeNotusSetPoint len d = atLeast len 1 (.ok (.notusSetPoint ⟨d.byte 0⟩)) := by
  rw [decodeNotusSetPoint, memRead8_eq]

theorem decodeNotusConfig_eq (len : BitVec 4) (d : Payload) : decodeNotusConfig len d
    = atLeast len 4 (.ok (.notusConfig ⟨d.byte 1 ++ d.byte 0, d.byte 2, d.byte 3⟩)) := by
  rw [decodeNotusConfig, memRead16_eq, memRead8_eq, memRead8_eq]

theorem partsNotusSetPoint_eq (o : EncOps) (c : BitVec 6) (r : NotusSetPoint) : partsNotusSetPoint o c r
    = deviceParts o c 1 #v[r.power, 0, 0, 0, 0, 0, 0, 0] := by
  rw [partsNotusSetPoint, memWrite_byte]
  rfl

theorem partsNotusConfig_eq (o : EncOps) (c : BitVec 6) (r : NotusConfig) : partsNotusConfig o c r
    = deviceParts o c 4
        #v[r.rampDownMs.extractLsb' 0 8, r.rampDownMs.extractLsb' 8 8, r.minFan, r.maxHeat, 0, 0, 0, 0] := by
  rw [partsNotusConfig, memWrite_u16, memWrite_byte, memWrite_byte]
  rfl

/-- ENCODE of a Notus tag is the row of that tag with the same record (R130, log entry 4). -/
theorem exec_encode_notusSetPoint {s : State} (hclass : s.cfg.devRom 0x2C = some .notusSetPoint) (o : EncOps)
    (r : NotusSetPoint) :
    exec (.encode o 0x2C (rawRecord (putNotusSetPoint r 0))) s = exec (.encodeNotusSetPoint o r) s :=
  exec_encode_of_rawParts hclass (congrArg (partsNotusSetPoint o 0x2C)
    (read_rawRecord (readNotusSetPoint_putNotusSetPoint r 0) (by simp [putNotusSetPoint])))

theorem exec_encode_notusConfig {s : State} (hclass : s.cfg.devRom 0x2D = some .notusConfig) (o : EncOps)
    (r : NotusConfig) :
    exec (.encode o 0x2D (rawRecord (putNotusConfig r 0))) s = exec (.encodeNotusConfig o r) s :=
  exec_encode_of_rawParts hclass (congrArg (partsNotusConfig o 0x2D)
    (read_rawRecord (readNotusConfig_putNotusConfig r 0) (by simp [putNotusConfig])))

/-! ### Celaeno -/

theorem decodeCelaenoSetPoint_eq (len : BitVec 4) (d : Payload) :
    decodeCelaenoSetPoint len d = atLeast len 1 (.ok (.celaenoSetPoint ⟨d.byte 0⟩)) := by
  rw [decodeCelaenoSetPoint, memRead8_eq]

theorem decodeCelaenoStatus_eq (len : BitVec 4) (d : Payload) : decodeCelaenoStatus len d = atLeast len 3
    (.ok (.celaenoStatus ⟨waterLevelDecode (d.byte 0), fanDecode (d.byte 2 ++ d.byte 1)⟩)) := by
  rw [decodeCelaenoStatus, memRead8_eq, memRead16_eq]

theorem decodeCelaenoConfig_eq (len : BitVec 4) (d : Payload) : decodeCelaenoConfig len d = atLeast len 8
    (.ok (.celaenoConfig ⟨(d.byte 1 ++ d.byte 0).setWidth 32, (d.byte 3 ++ d.byte 2).setWidth 32,
      (d.byte 5 ++ d.byte 4).setWidth 32, (d.byte 7 ++ d.byte 6).setWidth 32⟩)) := by
  simp only [decodeCelaenoConfig, memRead16_eq]

/-- The water level of a flags byte is its highest flag of bits 2, 1, 0 (R268): read-error, critical, warning. -/
theorem waterLevelDecode_highest_flag (w : Byte) :
    (waterLevelDecode w = 3 ↔ w.getLsbD 2 = true) ∧
    (waterLevelDecode w = 2 ↔ w.getLsbD 2 = false ∧ w.getLsbD 1 = true) ∧
    (waterLevelDecode w = 1 ↔ w.getLsbD 2 = false ∧ w.getLsbD 1 = false ∧ w.getLsbD 0 = true) := by
  rw [waterLevelDecode]
  generalize w.getLsbD 2 = readError, w.getLsbD 1 = critical, w.getLsbD 0 = warning
  revert readError critical warning
  decide

/-- Each water level but nominal is one flag bit (R269). -/
theorem waterLevelEncode_eq (l : BitVec 2) : waterLevelEncode l = (if l = 0 then 0 else 1 <<< (l.toNat - 1) : Byte) := by
  obtain rfl | rfl | rfl | rfl := type_cases l <;> rfl

theorem partsCelaenoSetPoint_eq (o : EncOps) (c : BitVec 6) (r : CelaenoSetPoint) : partsCelaenoSetPoint o c r
    = deviceParts o c 1 #v[r.power, 0, 0, 0, 0, 0, 0, 0] := by
  rw [partsCelaenoSetPoint, memWrite_byte]
  rfl

/-- A fan with a valid status passes the enum check (R269, 45_dispatch.md R312). -/
theorem partsCelaenoStatus_of_valid {r : CelaenoStatus} (hfan : r.fan.fstatus ≠ 3) (o : EncOps) (c : BitVec 6) :
    partsCelaenoStatus o c r
      = deviceParts o c 3 #v[if r.waterLevel = 0 then 0 else 1 <<< (r.waterLevel.toNat - 1),
          (fanEncode r.fan).extractLsb' 0 8, (fanEncode r.fan).extractLsb' 8 8, 0, 0, 0, 0, 0] := by
  rw [partsCelaenoStatus, firstBadFan_cons_valid hfan, firstBadFan, memWrite_byte, memWrite_u16, waterLevelEncode_eq]
  rfl

/-- Durations of 16 bits are in range, and each is written as its word (R271). -/
theorem partsCelaenoConfig_u16 (o : EncOps) (cls : BitVec 6) (a b c d : U16) :
    partsCelaenoConfig o cls ⟨a.setWidth 32, b.setWidth 32, c.setWidth 32, d.setWidth 32⟩
      = deviceParts o cls 8 #v[a.extractLsb' 0 8, a.extractLsb' 8 8, b.extractLsb' 0 8, b.extractLsb' 8 8,
          c.extractLsb' 0 8, c.extractLsb' 8 8, d.extractLsb' 0 8, d.extractLsb' 8 8] := by
  have hvalue (u : U16) : (u.setWidth 32).toNat = u.toNat := BitVec.toNat_setWidth_of_le (by decide)
  have hrange (u : U16) : ¬ 65535 < u.toNat := by have := u.isLt; omega
  simp only [partsCelaenoConfig, hvalue, firstFailing, decide_eq_true_eq, if_neg (hrange _), memWrite_u16]
  rfl

/-! ### Helios -/

theorem decodeHeliosSetPoint_eq (len : BitVec 4) (d : Payload) :
    decodeHeliosSetPoint len d = atLeast len 2 (.ok (.heliosSetPoint ⟨d.byte 0, d.byte 1⟩)) := by
  rw [decodeHeliosSetPoint, memRead8_eq, memRead8_eq]

theorem decodeHeliosPulseMode_eq (len : BitVec 4) (d : Payload) :
    decodeHeliosPulseMode len d = atLeast len 2 (.ok (.heliosPulseMode ⟨d.byte 1 ++ d.byte 0⟩)) := by
  rw [decodeHeliosPulseMode, memRead16_eq]

/-- TRIGGER_MODE_LEN is the length of a trigger mode and says whether its camera delay is on the wire (R264). -/
theorem decodeDevice_heliosTriggerMode {cfg : Config} {tml : TriggerModeLen} (html : cfg.triggerModeLen = tml)
    (len : BitVec 4) (d : Payload) :
    decodeDevice cfg .heliosTriggerMode len d = atLeast len tml.bytes (.ok (.heliosTriggerMode
      ⟨d.byte 1 ++ d.byte 0, d.byte 3 ++ d.byte 2, if tml = .six then d.byte 5 ++ d.byte 4 else 0⟩)) := by
  simp only [decodeDevice, html, decodeHeliosTriggerMode, memRead16_eq]

theorem partsHeliosSetPoint_eq (o : EncOps) (c : BitVec 6) (r : HeliosSetPoint) : partsHeliosSetPoint o c r
    = deviceParts o c 2 #v[r.visible, r.uv, 0, 0, 0, 0, 0, 0] := by
  rw [partsHeliosSetPoint, memWrite_byte, memWrite_byte]
  rfl

theorem partsHeliosPulseMode_eq (o : EncOps) (c : BitVec 6) (r : HeliosPulseMode) : partsHeliosPulseMode o c r
    = deviceParts o c 2 #v[r.periodMs.extractLsb' 0 8, r.periodMs.extractLsb' 8 8, 0, 0, 0, 0, 0, 0] := by
  rw [partsHeliosPulseMode, memWrite_u16]
  rfl

theorem partsHeliosTriggerMode_six (o : EncOps) (c : BitVec 6) (r : HeliosTriggerMode) :
    partsHeliosTriggerMode .six o c r
      = deviceParts o c 6 #v[r.period100us.extractLsb' 0 8, r.period100us.extractLsb' 8 8, r.pulseUs.extractLsb' 0 8,
          r.pulseUs.extractLsb' 8 8, r.cameraDelayUs.extractLsb' 0 8, r.cameraDelayUs.extractLsb' 8 8, 0, 0] := by
  simp only [partsHeliosTriggerMode, if_pos, memWrite_u16]
  rfl

/-- The camera delay is ignored where TRIGGER_MODE_LEN is 4 (R265). -/
theorem partsHeliosTriggerMode_four (o : EncOps) (c : BitVec 6) (r : HeliosTriggerMode) :
    partsHeliosTriggerMode .four o c r
      = deviceParts o c 4 #v[r.period100us.extractLsb' 0 8, r.period100us.extractLsb' 8 8, r.pulseUs.extractLsb' 0 8,
          r.pulseUs.extractLsb' 8 8, 0, 0, 0, 0] := by
  simp only [partsHeliosTriggerMode, memWrite_u16]
  rfl

end Sys2Proof.Machine
end

section
/-! PROOF. The statements of 44_helios_celaeno_notus.md R260 to R275, on the decoders and on the encoders. -/

namespace Sys2Proof.Proofs
open Sys2Proof.Machine

/-- Settles O21: each message's two rows run one decoder that checks the length only. -/
theorem notusMessagesDecode : Obligations.NotusMessagesDecode := by
  intro n x s hready hlen
  refine ⟨fun hclass henough => ?_, fun hclass henough => ?_,
    fun hclass => deviceTooShort_of_registered hready hclass rfl rfl,
    fun hclass => deviceTooShort_of_registered hready hclass rfl rfl⟩
  · exact State.answerDevice_of_atLeast hready hclass hlen (decodeNotusSetPoint_eq ..) henough
  · exact State.answerDevice_of_atLeast hready hclass hlen (decodeNotusConfig_eq ..) henough

/-- Settles O22: the decoders check the length only, and the water level of a flags byte is its highest flag. -/
theorem celaenoMessagesDecode : Obligations.CelaenoMessagesDecode := by
  intro n x s hready hlen
  obtain ⟨hreadError, hcritical, hwarning⟩ := waterLevelDecode_highest_flag (x.data.byte 0)
  refine ⟨fun hclass henough => ?_, fun hclass henough => ⟨_, hreadError, hcritical, hwarning, ?_⟩,
    fun hclass henough => ?_,
    fun hclass => deviceTooShort_of_registered hready hclass rfl rfl,
    fun hclass => deviceTooShort_of_registered hready hclass rfl rfl,
    fun hclass => deviceTooShort_of_registered hready hclass rfl rfl⟩
  · exact State.answerDevice_of_atLeast hready hclass hlen (decodeCelaenoSetPoint_eq ..) henough
  · exact State.answerDevice_of_atLeast hready hclass hlen (decodeCelaenoStatus_eq ..) henough
  · exact State.answerDevice_of_atLeast hready hclass hlen (decodeCelaenoConfig_eq ..) henough

/-- Settles O23: the decoders check the length only; TRIGGER_MODE_LEN gives that of the trigger mode and says whether its
camera delay is read. -/
theorem heliosMessagesDecode : Obligations.HeliosMessagesDecode := by
  intro n x s hready hlen
  refine ⟨fun hclass henough => ?_, fun hclass henough => ?_, fun hclass hsix henough => ?_,
    fun hclass hfour henough => ?_,
    fun hclass => deviceTooShort_of_registered hready hclass rfl rfl,
    fun hclass => deviceTooShort_of_registered hready hclass rfl rfl,
    fun hclass => deviceTooShort_of_registered hready hclass rfl rfl⟩
  · exact State.answerDevice_of_atLeast hready hclass hlen (decodeHeliosSetPoint_eq ..) henough
  · exact State.answerDevice_of_atLeast hready hclass hlen (decodeHeliosPulseMode_eq ..) henough
  · exact State.answerDevice_of_atLeast hready hclass hlen (decodeDevice_heliosTriggerMode hsix ..) henough
  · exact State.answerDevice_of_atLeast hready hclass hlen (decodeDevice_heliosTriggerMode hfour ..) henough

/-- Settles O34: each row's parts are those of a device message, and the ENCODE request of the row's tag is the row. -/
theorem notusMessagesEncode : Obligations.NotusMessagesEncode := by
  intro o s hready hcap
  refine ⟨fun r hclass hnode hroom => ?_, fun r hclass hnode hroom => ?_, fun r hclass => ?_, fun r hclass => ?_⟩
  · have hrow := State.buildDevice_of_parts hready hcap hclass hnode hroom (partsNotusSetPoint_eq o 0x2C r)
      (rawRecord (putNotusSetPoint r 0))
    exact ⟨hrow, (exec_encode_notusSetPoint hclass o r).trans hrow⟩
  · have hrow := State.buildDevice_of_parts hready hcap hclass hnode hroom (partsNotusConfig_eq o 0x2D r)
      (rawRecord (putNotusConfig r 0))
    exact ⟨hrow, (exec_encode_notusConfig hclass o r).trans hrow⟩
  · exact encodeRefusals_of_registered hready hcap hclass (p := partsNotusSetPoint o 0x2C r) rfl rfl rfl rfl
  · exact encodeRefusals_of_registered hready hcap hclass (p := partsNotusConfig o 0x2D r) rfl rfl rfl rfl

/-- Settles O35: the fan status is checked before the two checks of a device message, the durations after them. -/
theorem celaenoMessagesEncode : Obligations.CelaenoMessagesEncode := by
  intro o s hready hcap
  refine ⟨fun r hclass hnode hroom => ?_, fun r hclass hnode hroom hfan => ?_,
    fun a b c d hclass hnode hroom => ?_, fun r hclass => ?_, fun r hclass hfan => ?_, fun r hclass hfan => ?_,
    fun r hclass => ?_⟩
  · exact State.buildDevice_of_parts hready hcap hclass hnode hroom (partsCelaenoSetPoint_eq ..) _
  · exact State.buildDevice_of_parts hready hcap hclass hnode hroom (partsCelaenoStatus_of_valid hfan ..) _
  · exact State.buildDevice_of_parts hready hcap hclass hnode hroom (partsCelaenoConfig_u16 ..) _
  · exact encodeRefusals_of_registered hready hcap hclass (p := partsCelaenoSetPoint o 0x30 r) rfl rfl rfl rfl
  · exact encodeRefusals_of_registered hready hcap hclass (p := partsCelaenoStatus o 0x31 r) rfl
      (firstBadFan_cons_valid hfan []) rfl rfl
  · exact State.buildDevice_of_enumFault hready hcap hclass (firstBadFan_cons_bad hfan [])
  · exact encodeRefusals_of_registered hready hcap hclass (p := partsCelaenoConfig o 0x32 r) rfl rfl rfl rfl

/-- Settles O36: the parts are those of a device message, the trigger mode's for each TRIGGER_MODE_LEN. -/
theorem heliosMessagesEncode : Obligations.HeliosMessagesEncode := by
  intro o s hready hcap
  refine ⟨fun r hclass hnode hroom => ?_, fun r hclass hnode hroom => ?_, fun r hclass hnode hsix hroom => ?_,
    fun r hclass hnode hfour hroom => ?_, fun r hclass => ?_, fun r hclass => ?_, fun r hclass => ?_⟩
  · exact State.buildDevice_of_parts hready hcap hclass hnode hroom (partsHeliosSetPoint_eq ..) _
  · exact State.buildDevice_of_parts hready hcap hclass hnode hroom (partsHeliosPulseMode_eq ..) _
  · exact State.buildDevice_of_parts hready hcap hclass hnode hroom (hsix ▸ partsHeliosTriggerMode_six o 0x36 r) _
  · exact State.buildDevice_of_parts hready hcap hclass hnode hroom (hfour ▸ partsHeliosTriggerMode_four o 0x36 r) _
  · exact encodeRefusals_of_registered hready hcap hclass (p := partsHeliosSetPoint o 0x34 r) rfl rfl rfl rfl
  · exact encodeRefusals_of_registered hready hcap hclass (p := partsHeliosPulseMode o 0x35 r) rfl rfl rfl rfl
  · exact encodeRefusals_of_registered hready hcap hclass
      (p := partsHeliosTriggerMode s.cfg.triggerModeLen o 0x36 r) rfl rfl rfl rfl

end Sys2Proof.Proofs
end

section
/-! SUPPORT. PARSE of frames whose identifier is composed of in-range fields (45_dispatch.md R301), and how an answer of PARSE
depends on the type field (R321) and on the data bytes (R309). -/

namespace Sys2Proof.Machine

/-! ### PARSE by the fields of the identifier -/

/-- PARSE takes the branch of the fields that the identifier is composed of (41_identifier.md R174). -/
theorem exec_parse_idEncode (t : BitVec 2) (c : BitVec 6) (n : BitVec 3) (ext rtr : Bool) (len : BitVec 4) (d : Payload)
    (s : State) : exec (.parse ⟨idEncode (t.setWidth 32) (c.setWidth 32) (n.setWidth 32), ext, rtr, len, d⟩) s
      = s.answerParse (lenChecked len (keyBody s.cfg ext rtr t c n ⟨0, len, d⟩)) := by
  have hfields := idDecode_idEncode t c n
  simp only [idDecode, Prod.mk.injEq] at hfields
  obtain ⟨ht, hc, hn⟩ := hfields
  rw [exec_parse, parseBody_eq_keyBody, ht, hc, hn]
  rfl

/-! ### The type field -/

/-- Two answers of PARSE for frames of type 1 and 2 that agree but for `ftype` (R321). -/
def AlikeButType (c : BitVec 6) (n : BitVec 3) (hp std : Body) : Prop :=
  (∃ (k : BitVec 4) (w : Bool) (ea eb : U32), hp = .err k w ea eb ∧ std = .err k w ea eb) ∨
  (∃ (tag : Byte) (r : Record),
    hp = .parsed tag (n.setWidth 8) 1 c n r ∧ std = .parsed tag (n.setWidth 8) 2 c n r)

section
variable {c : BitVec 6} {n : BitVec 3}

theorem alikeButType_raise (e : Err) : AlikeButType c n (raise e) (raise e) :=
  .inl ⟨_, _, _, _, rfl, rfl⟩

theorem alikeButType_parseAnswer (tag : Byte) (wrapped : Bool) (r : Except Err Record) :
    AlikeButType c n (parseAnswer tag (n.setWidth 8) 1 c n wrapped r)
      (parseAnswer tag (n.setWidth 8) 2 c n wrapped r) := by
  cases r with
  | ok r => exact .inr ⟨tag, r, rfl, rfl⟩
  | error e => exact .inl ⟨_, _, _, _, rfl, rfl⟩

theorem alikeButType_parseDevice (cfg : Config) (len : BitVec 4) (d : Payload) :
    AlikeButType c n (parseDevice cfg 1 c n len d) (parseDevice cfg 2 c n len d) := by
  unfold parseDevice
  cases cfg.devRom c with
  | none => exact alikeButType_raise _
  | some k => exact alikeButType_parseAnswer ..

/-- The type field selects the branch, which is the same one for 1 and 2, and is otherwise only copied to the answer. -/
theorem alikeButType_keyBody (cfg : Config) (rtr : Bool) (x : FrameTail) :
    AlikeButType c n (keyBody cfg false rtr 1 c n x) (keyBody cfg false rtr 2 c n x) := by
  cases rtr with
  | true => exact alikeButType_parseAnswer ..
  | false => exact alikeButType_parseDevice ..

theorem alikeButType_lenChecked (len : BitVec 4) {hp std : Body} (h : AlikeButType c n hp std) :
    AlikeButType c n (lenChecked len hp) (lenChecked len std) := by
  unfold lenChecked
  split_ifs
  · exact alikeButType_raise _
  · exact h

end

/-! ### The data bytes -/

theorem atLeast_congr {len : BitVec 4} {need : ℕ} {r r' : Except Err Record} (h : need ≤ len.toNat → r = r') :
    atLeast len need r = atLeast len need r' := by
  obtain hshort | henough := Nat.lt_or_ge len.toNat need
  · rw [atLeast_short hshort, atLeast_short hshort]
  · rw [h henough]

section
variable {len : BitVec 4} {d d' : Payload} (h : ∀ k : ℕ, k < len.toNat → d.byte k = d'.byte k)
include h

/-- A device decoder reads only bytes that its length check covers (43_zeus.md R220). -/
theorem decodeDevice_congr (cfg : Config) (k : DevKind) : decodeDevice cfg k len d = decodeDevice cfg k len d' := by
  cases k with
  | heliosTriggerMode =>
    cases html : cfg.triggerModeLen with
    | four =>
      rw [decodeDevice_heliosTriggerMode html, decodeDevice_heliosTriggerMode html]
      exact atLeast_congr fun (henough : 4 ≤ len.toNat) => by
        simp (disch := omega) only [h, reduceCtorEq, if_false]
    | six =>
      rw [decodeDevice_heliosTriggerMode html, decodeDevice_heliosTriggerMode html]
      exact atLeast_congr fun (henough : 6 ≤ len.toNat) => by simp (disch := omega) only [h]
  | _ =>
    exact atLeast_congr fun henough => by
      simp (disch := omega) only [memRead8_eq, memRead16_eq, memRead64_eq, pdDecode_eq, h]

theorem decodeNet_congr (k : NetKind) (c : BitVec 6) : decodeNet k c len d = decodeNet k c len d' := by
  cases k with
  | heartbeatRequest =>
    by_cases hempty : len.toNat = 0
    · simp only [decodeNet, decodeHeartbeatRequest_of_empty hempty]
    · simp only [decodeNet, decodeHeartbeatRequest_of_nonempty hempty]
      exact atLeast_congr fun henough => by simp (disch := omega) only [h]
  | _ => exact atLeast_congr fun henough => by simp (disch := omega) only [memRead8_eq, memRead16_eq, h]

/-- A version byte is read only where the length reaches it (42_network.md R191). -/
theorem decodeHeartbeat_congr (c : BitVec 6) (n : BitVec 3) :
    decodeHeartbeat c n len d = decodeHeartbeat c n len d' := by
  have hversion (j m : ℕ) (hj : j < m) :
      (if m ≤ len.toNat then d.byte j else 0) = if m ≤ len.toNat then d'.byte j else 0 :=
    ite_congr rfl (fun hm => h j (by omega)) fun _ => rfl
  by_cases hone : len.toNat = 1
  · rw [decodeHeartbeat_of_one hone, decodeHeartbeat_of_one hone]
  · rw [decodeHeartbeat_of_ne_one hone, decodeHeartbeat_of_ne_one hone, hversion 0 2 (by decide),
      hversion 1 2 (by decide), hversion 2 3 (by decide), hversion 3 4 (by decide)]

/-- Every branch of PARSE reads the data only through its decoder. -/
theorem keyBody_congr (cfg : Config) (ext rtr : Bool) (t : BitVec 2) (c : BitVec 6) (n : BitVec 3) (hi : BitVec 21) :
    keyBody cfg ext rtr t c n ⟨hi, len, d⟩ = keyBody cfg ext rtr t c n ⟨hi, len, d'⟩ := by
  have hnet : parseNet c n len d = parseNet c n len d' := by simp only [parseNet, decodeNet_congr h]
  have hheartbeat : parseHeartbeat c n len d = parseHeartbeat c n len d' := by
    rw [parseHeartbeat, decodeHeartbeat_congr h, parseHeartbeat]
  have hdevice : parseDevice cfg t c n len d = parseDevice cfg t c n len d' := by
    simp only [parseDevice, decodeDevice_congr h]
  simp only [keyBody, hnet, hheartbeat, hdevice]

end

end Sys2Proof.Machine
end

section
/-! PROOF. The statements of 45_dispatch.md R302 to R309 and R321 on PARSE. -/

namespace Sys2Proof.Proofs
open Sys2Proof.Machine

/-- Settles O30: the identifier of either frame is composed of its type, the class and the node, and what the two types
answer is alike. -/
theorem highPriorityFramesParseAlike : Obligations.HighPriorityFramesParseAlike := by
  intro c n rtr len d s hready frame
  have hparse (t : BitVec 2) : exec (.parse (frame t.toNat)) s
      = .next (s.answered ⟨0x0, lenChecked len (keyBody s.cfg false rtr t c n ⟨0, len, d⟩)⟩) := by
    dsimp only [frame]
    rw [← idEncode_setWidth_eq_ofNat, exec_parse_idEncode]
    exact State.respond_ready hready _
  have hhp := hparse 1
  have hstd := hparse 2
  obtain ⟨k, w, ea, eb, h1, h2⟩ | ⟨tag, r, h1, h2⟩ :=
    alikeButType_lenChecked len (alikeButType_keyBody (c := c) (n := n) s.cfg rtr ⟨0, len, d⟩)
  · rw [h1] at hhp
    rw [h2] at hstd
    exact .inl ⟨k, w, ea, eb, hhp, hstd⟩
  · rw [h1] at hhp
    rw [h2] at hstd
    exact .inr ⟨tag, r, hhp, hstd⟩

/-- Settles O31: every decoder reads only bytes that its length check covers. -/
theorem parseIgnoresBytesPastTheLength : Obligations.ParseIgnoresBytesPastTheLength := by
  intro id ext rtr len d d' s h
  simp only [exec_parse, parseBody_eq_keyBody, keyBody_congr h]

/-- Settles O15: the length check, the extended check and the RTR rows of R305. -/
theorem rejectedFrames : Obligations.RejectedFrames := by
  intro f rtr t c n x s hready
  refine ⟨fun hlong => ?_, fun hlen hext => ?_, fun hlong => ?_, fun hlen => ?_⟩
  · rw [exec_parse, parseBody_eq_keyBody, State.answerParse_long hready hlong]
  · rw [exec_parse, parseBody_eq_keyBody, hext, State.answerParse_short hready hlen]
    rfl
  · exact State.answerParse_long hready hlong _
  · have hreject (e : Err) := State.rejectFrame_short hready hlen e
    exact ⟨hreject _, hreject _, hreject _⟩

/-- Settles O28: the four rows look the class up in DevROM. -/
theorem unregisteredClassesAreUnknown : Obligations.UnregisteredClassesAreUnknown := by
  intro c n x s hready hlen hnone
  have hunknown (t : BitVec 2) :
      s.answerDevice t c n x = .next (s.answered (errorAnswer 0x0 5 false (c.setWidth 32) 0)) := by
    rw [State.answerDevice, State.answerParse_short hready hlen, parseDevice, hnone]
    rfl
  rw [exec_selectDeviceHp, exec_selectDeviceStd]
  exact ⟨hunknown 1, hunknown 2, hunknown 1, hunknown 2⟩

end Sys2Proof.Proofs
end

section
/-! PROOF. The statements of 45_dispatch.md R300 on every instruction. -/

namespace Sys2Proof.Proofs
open Sys2Proof.Machine

/-- Settles O48: the instruction is one answer on the current port. -/
theorem submitChangesOnlyItsPort : Obligations.SubmitChangesOnlyItsPort := by
  intro i s
  obtain ⟨b, -, hexec⟩ := exec_answersLegally s.cfg i
  rw [hexec s rfl]
  refine ⟨fun hready => ⟨⟨opCode i, b⟩, _, rfl, State.respond_ready hready _,
    State.answered_getElem_same s _ hready, fun p hp => State.answered_getElem_other s _ hp,
    State.answered_ports_length s _, rfl, rfl, rfl, rfl⟩, fun hnone => State.respond_noPort hnone _⟩

/-- Settles O52: the fetch decodes the image of a Submit. -/
theorem stepRunsTheDecodedInstruction : Obligations.StepRunsTheDecodedInstruction := by
  intro s p img rest i hpending hdecode
  rw [step, fetch_submit hpending hdecode]

end Sys2Proof.Proofs
end

section
/-! SUPPORT. The checks of ENCODE on any device tag (45_dispatch.md R310 to R316). -/

namespace Sys2Proof.Machine

theorem exec_encode (o : EncOps) (tag : Byte) (raw : RawRecord) (s : State) :
    exec (.encode o tag raw) s = s.answerEncode (encodeBody s.cfg o tag raw) := rfl

theorem exec_encodeNotEncodable (o : EncOps) (tag : Byte) (raw : RawRecord) (s : State) :
    exec (.encodeNotEncodable o tag raw) s = s.answerEncode (encodeBody s.cfg o tag raw) := rfl

/-- A tag below 64 is encodable only where its class is registered, and four others are (R310, R311). -/
theorem encKind_eq_none {cfg : Config} {tag : Byte} (h40 : tag ≠ 0x40) (h42 : tag ≠ 0x42) (h47 : tag ≠ 0x47)
    (h80 : tag ≠ 0x80) (hclass : tag.toNat < 64 → cfg.devRom (tag.setWidth 6) = none) : encKind cfg tag = none := by
  by_cases hdevice : tag.toNat < 64
  · rw [encKind, if_pos hdevice, hclass hdevice]
    rfl
  · rw [encKind, if_neg hdevice, if_neg h40, if_neg h42, if_neg h47, if_neg h80]

/-! ### The parts of a device message -/

/-- Only the two messages with fans have an enum check, which a record with valid statuses passes (R312). -/
theorem rawDeviceParts_enumFault {cfg : Config} {k : DevKind} {raw : RawRecord}
    (hzeus : k = .zeusStatus → let r := (readZeusStatus.read raw.toNat).1
      r.fan0.fstatus ≠ 3 ∧ r.fan1.fstatus ≠ 3 ∧ r.fan2.fstatus ≠ 3)
    (hcelaeno : k = .celaenoStatus → (readCelaenoStatus.read raw.toNat).1.fan.fstatus ≠ 3) (o : EncOps)
    (c : BitVec 6) :
    (rawDeviceParts cfg o c k raw).enumFault = none := by
  cases k with
  | zeusStatus =>
    obtain ⟨h0, h1, h2⟩ := hzeus rfl
    exact (firstBadFan_cons_valid h0 _).trans ((firstBadFan_cons_valid h1 _).trans (firstBadFan_cons_valid h2 _))
  | celaenoStatus => exact firstBadFan_cons_valid (hcelaeno rfl) _
  | _ => rfl

theorem rawDeviceParts_nodeChecked (cfg : Config) (o : EncOps) (c : BitVec 6) (k : DevKind) (raw : RawRecord) :
    (rawDeviceParts cfg o c k raw).nodeChecked = true := by
  cases k <;> rfl

theorem rawDeviceParts_check (cfg : Config) (o : EncOps) (c : BitVec 6) (k : DevKind) (raw : RawRecord) :
    (rawDeviceParts cfg o c k raw).check = none := by
  cases k <;> rfl

/-- The length that ENCODE builds is the one in DevROM (R315). -/
theorem rawDeviceParts_len (cfg : Config) (o : EncOps) (c : BitVec 6) (k : DevKind) (raw : RawRecord) :
    (rawDeviceParts cfg o c k raw).len = k.payloadLen cfg.triggerModeLen := by
  cases k <;> rfl

/-! ### Range checks -/

/-- The first check of a list that fails gives its error (42_network.md R185). -/
theorem firstFailing_ofFn {m : ℕ} {failed : Fin m → Bool} {e : Fin m → Err} {i : Fin m} (hi : failed i = true)
    (hbefore : ∀ j, j < i → failed j = false) : firstFailing (List.ofFn fun j => (failed j, e j)) = some (e i) := by
  induction m with
  | zero => exact i.elim0
  | succ m ih =>
    rw [List.ofFn_succ]
    cases i using Fin.cases with
    | zero => rw [hi, firstFailing_cons_true]
    | succ i =>
      rw [hbefore 0 i.succ_pos, firstFailing_cons_false]
      exact ih (failed := fun j => failed j.succ) (e := fun j => e j.succ) hi
        fun j hj => hbefore j.succ (Fin.succ_lt_succ_iff.2 hj)

/-- A range check that fails, after every other check has passed (R316). -/
theorem State.buildDevice_of_range {s : State} (hready : s.portReady) {o : EncOps} (hcap : o.cap.toNat ≤ 8)
    {c : BitVec 6} {k : DevKind} (hclass : s.cfg.devRom c = some k) (hnode : o.node.toNat ≤ 7) {p : Parts}
    (henum : p.enumFault = none) (hcheck : p.check = none) (hroom : p.len ≤ o.cap.toNat) {e : Err}
    (hrange : p.range = some e) (raw : RawRecord) :
    s.buildDevice o c k p raw = .next (s.answered ⟨0x1, raise e⟩) := by
  rw [State.buildDevice_of_registered hclass, State.buildMessage_ready hready hcap,
    runParts_of_range henum (fun h => not_lt.2 hnode h.2) hcheck hroom hrange]

theorem partsCelaenoConfig_range (o : EncOps) (c : BitVec 6) (r : CelaenoConfig) :
    (partsCelaenoConfig o c r).range = firstFailing (List.ofFn fun j : Fin 4 =>
      (decide (65535 < (#v[r.rampUpMs, r.rampDownMs, r.minimumOnMs, r.debounceMs][j]).toNat),
        rangeOverflow (BitVec.ofNat 32 j.val))) := rfl

theorem partsZeusConfig_range (o : EncOps) (c : BitVec 6) (r : ZeusConfig) :
    (partsZeusConfig o c r).range = firstFailing (List.ofFn fun j : Fin 4 =>
      (decide (15 < (#v[r.pd0.divPd, r.pd0.divI, r.pd1.divPd, r.pd1.divI][j]).toNat),
        rangeOverflow (#v[3, 4, 8, 9][j]))) := rfl

end Sys2Proof.Machine
end

section
/-! PROOF. The statements of 45_dispatch.md R310 to R316 on the checks of ENCODE. -/

namespace Sys2Proof.Proofs
open Sys2Proof.Machine

/-- Settles O32: both instructions are the one operation, whose first two checks these are. -/
theorem malformedEncodesAreRefused : Obligations.MalformedEncodesAreRefused := by
  intro o tag raw s hready
  have hrefused {reason : U32} (h : encodeBody s.cfg o tag raw = raise (badRequest reason 0)) :
      exec (.encode o tag raw) s = .next (s.answered (errorAnswer 0x1 8 false reason 0)) ∧
      exec (.encodeNotEncodable o tag raw) s = .next (s.answered (errorAnswer 0x1 8 false reason 0)) := by
    rw [exec_encode, exec_encodeNotEncodable, h]
    exact ⟨State.respond_ready hready _, State.respond_ready hready _⟩
  refine ⟨fun hbig => hrefused (if_pos hbig), fun hcap h40 h42 h47 h80 hclass => hrefused ?_⟩
  rw [encodeBody, if_neg (not_lt.2 hcap), encKind_eq_none h40 h42 h47 h80 hclass]

/-- Settles O42: a tag below 64 is its class, and the parts of its message check the node, then the length, first. -/
theorem nodeThenLengthChecks : Obligations.NodeThenLengthChecks := by
  intro k o tag raw s hready hcap htag hclass hzeus hcelaeno
  have hwidth : (tag.setWidth 6).setWidth 8 = tag := by bv_omega
  have hrow := exec_encode_device hclass o raw raw
  rw [hwidth] at hrow
  rw [← rawDeviceParts_len s.cfg o (tag.setWidth 6) k raw]
  exact encodeRefusals_of_registered hready hcap hclass hrow (rawDeviceParts_enumFault hzeus hcelaeno o _)
    (rawDeviceParts_nodeChecked ..) (rawDeviceParts_check ..)

/-- Settles O43: each range check lists the fields in their order, and the first that fails names its field. -/
theorem rangeOverflowNamesTheFirstField : Obligations.RangeOverflowNamesTheFirstField := by
  intro o s hready hcap hnode
  constructor
  · intro r i hclass field hbig hbefore
    exact State.buildDevice_of_range hready hcap.le hclass hnode rfl rfl hcap.ge
      ((partsCelaenoConfig_range o 0x32 r).trans (firstFailing_ofFn (decide_eq_true hbig)
        fun j hj => decide_eq_false (not_lt.2 (hbefore j hj)))) _
  · intro r i hclass field hbig hbefore
    exact State.buildDevice_of_range hready hcap.le hclass hnode rfl rfl hcap.ge
      ((partsZeusConfig_range o 0x3B r).trans (firstFailing_ofFn (decide_eq_true hbig)
        fun j hj => decide_eq_false (not_lt.2 (hbefore j hj)))) _

end Sys2Proof.Proofs
end

section
/-! SUPPORT. PARSE of the frame that ENCODE builds (45_dispatch.md R319): the parts of an encoder compose the identifier of
the branch whose decoder reads their payload back. -/

namespace Sys2Proof.Machine

/-! ### Fields read back from their bytes -/

/-- The bytes of a buffer that is written out. -/
theorem byte_literal (a b c d e f g h : Byte) :
    Payload.byte #v[a, b, c, d, e, f, g, h] 0 = a ∧ Payload.byte #v[a, b, c, d, e, f, g, h] 1 = b ∧
    Payload.byte #v[a, b, c, d, e, f, g, h] 2 = c ∧ Payload.byte #v[a, b, c, d, e, f, g, h] 3 = d ∧
    Payload.byte #v[a, b, c, d, e, f, g, h] 4 = e ∧ Payload.byte #v[a, b, c, d, e, f, g, h] 5 = f ∧
    Payload.byte #v[a, b, c, d, e, f, g, h] 6 = g ∧ Payload.byte #v[a, b, c, d, e, f, g, h] 7 = h :=
  ⟨rfl, rfl, rfl, rfl, rfl, rfl, rfl, rfl⟩

/-- A word is its two bytes (20_memory.md R63). -/
theorem bytes_append (u : U16) : u.extractLsb' 8 8 ++ u.extractLsb' 0 8 = u := by
  rw [BitVec.extractLsb'_append_extractLsb'_eq_extractLsb' (by decide), BitVec.extractLsb'_eq_self]

/-- A number of at most 16 bits is a word. -/
theorem exists_u16_of_le {v : U32} (h : v.toNat ≤ 65535) : ∃ u : U16, v = u.setWidth 32 :=
  ⟨v.setWidth 16, BitVec.eq_of_toNat_eq (by simp; omega)⟩

theorem setWidth_ne_zero {u : U16} (h : u ≠ 0) : u.setWidth 32 ≠ 0 := by
  bv_omega

/-- Two dividers of at most 15 are the two digits of their byte (30_encoding.md R109). -/
theorem dividers_of_byte {hi lo : Byte} (hhi : hi.toNat ≤ 15) (hlo : lo.toNat ≤ 15) :
    (hi * 16 + lo) % 16 = lo ∧ (hi * 16 + lo) / 16 = hi := by
  have hvalue : (hi * 16 + lo).toNat = hi.toNat * 16 + lo.toNat := by
    simp only [BitVec.toNat_add, BitVec.toNat_mul, BitVec.reduceToNat]
    omega
  constructor <;> apply BitVec.eq_of_toNat_eq
  · simp only [BitVec.toNat_umod, hvalue, BitVec.reduceToNat]
    omega
  · simp only [BitVec.toNat_udiv, hvalue, BitVec.reduceToNat]
    omega

/-- Each water level comes back from its flag (44_helios_celaeno_notus.md R268, R269). -/
theorem waterLevelDecode_of_flag (l : BitVec 2) :
    waterLevelDecode (if l = 0 then 0 else 1 <<< (l.toNat - 1) : Byte) = l := by
  obtain rfl | rfl | rfl | rfl := type_cases l <;> rfl

/-- A node operand of at most 7 fits the node field (45_dispatch.md R313). -/
theorem node_setWidth_of_le {node : Byte} (h : node.toNat ≤ 7) : (node.setWidth 3).setWidth 8 = node :=
  BitVec.eq_of_toNat_eq (by simp; omega)

theorem toNat_ofNat_of_le_cap {cap : BitVec 4} {len : ℕ} (h : len ≤ cap.toNat) :
    (BitVec.ofNat 4 len).toNat = len := by
  have := cap.isLt
  rw [BitVec.toNat_ofNat]
  omega

/-! ### The frame of an encoder -/

/-- Both device types take the device branch, and with the rtr flag the poll's (45_dispatch.md R305, R308). -/
theorem keyBody_deviceType (cfg : Config) (hp : Bool) (c : BitVec 6) (n : BitVec 3) (x : FrameTail) :
    keyBody cfg false false (if hp then 1 else 2) c n x
      = parseDevice cfg (if hp then 1 else 2) c n x.len x.data ∧
    keyBody cfg false true (if hp then 1 else 2) c n x = parseRtr cfg (if hp then 1 else 2) c n x.len := by
  cases hp <;> exact ⟨rfl, rfl⟩

section
variable {s : State} (hready : s.portReady) {i : Instr} {o : EncOps} (hcap : o.cap.toNat ≤ 8)
include hready hcap

/-- A row whose checks pass answers with the frame of its parts, and PARSE of that frame takes the branch of their
identifier. -/
theorem parsesBack_of_parts {p : Parts} (hi : exec i s = s.buildMessage o p) (henum : p.enumFault = none)
    (hnode : ¬ (p.nodeChecked = true ∧ 7 < o.node.toNat)) (hcheck : p.check = none) (hroom : p.len ≤ o.cap.toNat)
    (hrange : p.range = none) {b : Body}
    (hkey : keyBody s.cfg false p.rtr p.t p.c p.n ⟨0, BitVec.ofNat 4 p.len, p.payload⟩ = b) :
    parsesBack s i ⟨0x0, b⟩ := by
  refine ⟨p.frame, ?_, ?_⟩
  · rw [hi, State.buildMessage_ready hready hcap, runParts_frame henum hnode hcheck hroom hrange]
  · have hlen : (BitVec.ofNat 4 p.len).toNat ≤ 8 := (toNat_ofNat_of_le_cap hroom).trans_le (hroom.trans hcap)
    rw [Parts.frame, exec_parse_idEncode, State.answerParse_short hready hlen, hkey]

/-- A device message comes back where its decoder reads the payload back (43_zeus.md R220, R221). -/
theorem parsesBack_device (hnode : o.node.toNat ≤ 7) {c : BitVec 6} {k : DevKind} (hclass : s.cfg.devRom c = some k)
    {len : ℕ} (hroom : len ≤ o.cap.toNat) {p : Parts} {raw : RawRecord} (hi : exec i s = s.buildDevice o c k p raw)
    {d : Payload} (hp : p = deviceParts o c len d) {r : Record}
    (hdecode : decodeDevice s.cfg k (BitVec.ofNat 4 len) d = atLeast (BitVec.ofNat 4 len) len (.ok r)) :
    parsesBack s i (deviceAnswer (if o.hp then 1 else 2) c (o.node.setWidth 3) r) := by
  subst hp
  rw [State.buildDevice_of_registered hclass] at hi
  rw [atLeast_enough (toNat_ofNat_of_le_cap hroom).ge] at hdecode
  refine parsesBack_of_parts hready hcap hi rfl (fun h => not_lt.2 hnode h.2) rfl hroom rfl
    ((keyBody_deviceType ..).1.trans ?_)
  simp only [deviceParts, parseDevice, hclass, hdecode]
  rfl

/-- A network command comes back where the decoder of its sub-command reads the payload back (42_network.md R180). -/
theorem parsesBack_network {c : BitVec 6} {n : BitVec 3} {k : NetKind} (hnet : netRom n = some k) {len : ℕ}
    (hroom : len ≤ o.cap.toNat) {d : Payload} (hi : exec i s = s.buildMessage o (networkParts c n none len d))
    {r : Record} (hdecode : decodeNet k c (BitVec.ofNat 4 len) d = .ok r) :
    parsesBack s i (networkAnswer k.tag c n r) := by
  refine parsesBack_of_parts hready hcap hi rfl (Parts.passes_node rfl o) rfl hroom rfl ?_
  simp only [networkParts, keyBody_network, parseNet, hnet, hdecode]
  rfl

/-- A poll comes back where its class is registered (42_network.md R193, R194). -/
theorem parsesBack_poll (hnode : o.node.toNat ≤ 7) {r : MessageRequest}
    (hclass : (s.cfg.devRom r.cls).isSome = true) (hi : exec i s = s.buildMessage o (partsMessageRequest s.cfg o r)) :
    parsesBack s i ⟨0x0, .parsed 0x80 o.node (if o.hp then 1 else 2) r.cls (o.node.setWidth 3)
      (.messageRequest ⟨r.cls, o.node.setWidth 3⟩)⟩ := by
  have hregistered : ¬ (s.cfg.devRom r.cls).isNone = true := ne_true_of_eq_false (Option.isNone_eq_false_iff.2 hclass)
  refine parsesBack_of_parts hready hcap hi rfl (fun h => not_lt.2 hnode h.2)
    ((partsMessageRequest_check s.cfg o r).trans (if_neg hregistered)) (Nat.zero_le _) rfl
    ((keyBody_deviceType ..).2.trans ?_)
  simp only [partsMessageRequest, deviceParts, parseRtr, node_setWidth_of_le hnode]
  rw [decodeRtr_of_registered _ rfl hclass]
  rfl

end

/-! ### Payloads read back: the heartbeat request (42_network.md) -/

theorem decode_heartbeatRequest_payload (c : BitVec 6) (p : U16) :
    decodeNet .heartbeatRequest c 2 #v[p.extractLsb' 0 8, p.extractLsb' 8 8, 0, 0, 0, 0, 0, 0]
      = .ok (.heartbeatRequest ⟨c, p.setWidth 32⟩) := by
  have htwo : (2 : BitVec 4).toNat = 2 := rfl
  rw [decodeNet, decodeHeartbeatRequest_of_nonempty (by decide), atLeast_enough htwo.ge]
  simp only [byte_literal, bytes_append]

/-! ### Payloads read back: Notus, Celaeno and Helios (44_helios_celaeno_notus.md) -/

section
variable (cfg : Config) (len : BitVec 4)

theorem decode_notusSetPoint_payload (r : NotusSetPoint) :
    decodeDevice cfg .notusSetPoint len #v[r.power, 0, 0, 0, 0, 0, 0, 0] = atLeast len 1 (.ok (.notusSetPoint r)) :=
  decodeNotusSetPoint_eq ..

theorem decode_notusConfig_payload (r : NotusConfig) :
    decodeDevice cfg .notusConfig len
        #v[r.rampDownMs.extractLsb' 0 8, r.rampDownMs.extractLsb' 8 8, r.minFan, r.maxHeat, 0, 0, 0, 0]
      = atLeast len 4 (.ok (.notusConfig r)) := by
  simp only [decodeDevice, decodeNotusConfig_eq, byte_literal, bytes_append]

theorem decode_celaenoSetPoint_payload (r : CelaenoSetPoint) :
    decodeDevice cfg .celaenoSetPoint len #v[r.power, 0, 0, 0, 0, 0, 0, 0]
      = atLeast len 1 (.ok (.celaenoSetPoint r)) :=
  decodeCelaenoSetPoint_eq ..

theorem decode_celaenoStatus_payload {r : CelaenoStatus} (hfan : r.fan.fstatus ≠ 3) :
    decodeDevice cfg .celaenoStatus len #v[if r.waterLevel = 0 then 0 else 1 <<< (r.waterLevel.toNat - 1),
        (fanEncode r.fan).extractLsb' 0 8, (fanEncode r.fan).extractLsb' 8 8, 0, 0, 0, 0, 0]
      = atLeast len 3 (.ok (.celaenoStatus r)) := by
  simp only [decodeDevice, decodeCelaenoStatus_eq, byte_literal, bytes_append, waterLevelDecode_of_flag,
    fanDecode_fanEncode hfan]

theorem decode_celaenoConfig_payload (a b c d : U16) :
    decodeDevice cfg .celaenoConfig len #v[a.extractLsb' 0 8, a.extractLsb' 8 8, b.extractLsb' 0 8, b.extractLsb' 8 8,
        c.extractLsb' 0 8, c.extractLsb' 8 8, d.extractLsb' 0 8, d.extractLsb' 8 8]
      = atLeast len 8
          (.ok (.celaenoConfig ⟨a.setWidth 32, b.setWidth 32, c.setWidth 32, d.setWidth 32⟩)) := by
  simp only [decodeDevice, decodeCelaenoConfig_eq, byte_literal, bytes_append]

theorem decode_heliosSetPoint_payload (r : HeliosSetPoint) :
    decodeDevice cfg .heliosSetPoint len #v[r.visible, r.uv, 0, 0, 0, 0, 0, 0]
      = atLeast len 2 (.ok (.heliosSetPoint r)) :=
  decodeHeliosSetPoint_eq ..

theorem decode_heliosPulseMode_payload (r : HeliosPulseMode) :
    decodeDevice cfg .heliosPulseMode len #v[r.periodMs.extractLsb' 0 8, r.periodMs.extractLsb' 8 8, 0, 0, 0, 0, 0, 0]
      = atLeast len 2 (.ok (.heliosPulseMode r)) := by
  simp only [decodeDevice, decodeHeliosPulseMode_eq, byte_literal, bytes_append]

variable {cfg}

theorem decode_heliosTriggerMode_payload_six (hsix : cfg.triggerModeLen = .six) (r : HeliosTriggerMode) :
    decodeDevice cfg .heliosTriggerMode len
        #v[r.period100us.extractLsb' 0 8, r.period100us.extractLsb' 8 8, r.pulseUs.extractLsb' 0 8,
          r.pulseUs.extractLsb' 8 8, r.cameraDelayUs.extractLsb' 0 8, r.cameraDelayUs.extractLsb' 8 8, 0, 0]
      = atLeast len 6 (.ok (.heliosTriggerMode r)) := by
  simp only [decodeDevice_heliosTriggerMode hsix, TriggerModeLen.bytes, byte_literal, bytes_append, if_pos]

/-- The camera delay is not on the wire where TRIGGER_MODE_LEN is 4 (R264, R265). -/
theorem decode_heliosTriggerMode_payload_four (hfour : cfg.triggerModeLen = .four) (r : HeliosTriggerMode) :
    decodeDevice cfg .heliosTriggerMode len
        #v[r.period100us.extractLsb' 0 8, r.period100us.extractLsb' 8 8, r.pulseUs.extractLsb' 0 8,
          r.pulseUs.extractLsb' 8 8, 0, 0, 0, 0]
      = atLeast len 4 (.ok (.heliosTriggerMode { r with cameraDelayUs := 0 })) := by
  simp only [decodeDevice_heliosTriggerMode hfour, TriggerModeLen.bytes, byte_literal, bytes_append, reduceCtorEq,
    if_false]

end

/-! ### Payloads read back: Zeus (43_zeus.md) -/

section
variable (cfg : Config) (len : BitVec 4)

theorem decode_zeusConfig_payload {r : ZeusConfig} (h3 : r.pd0.divPd.toNat ≤ 15) (h4 : r.pd0.divI.toNat ≤ 15)
    (h8 : r.pd1.divPd.toNat ≤ 15) (h9 : r.pd1.divI.toNat ≤ 15) :
    decodeDevice cfg .zeusConfig len #v[r.pd0.prop, r.pd0.deriv, r.pd0.integ, r.pd0.divI * 16 + r.pd0.divPd,
        r.pd1.prop, r.pd1.deriv, r.pd1.integ, r.pd1.divI * 16 + r.pd1.divPd]
      = atLeast len 8 (.ok (.zeusConfig r)) := by
  obtain ⟨hlow0, hhigh0⟩ := dividers_of_byte h4 h3
  obtain ⟨hlow1, hhigh1⟩ := dividers_of_byte h9 h8
  simp only [decodeDevice, decodeZeusConfig_eq, byte_literal, hlow0, hhigh0, hlow1, hhigh1]

theorem decode_zeusStatus_payload {r : ZeusStatus} (h0 : r.fan0.fstatus ≠ 3) (h1 : r.fan1.fstatus ≠ 3)
    (h2 : r.fan2.fstatus ≠ 3) :
    decodeDevice cfg .zeusStatus len #v[r.status, (fanEncode r.fan0).extractLsb' 0 8,
        (fanEncode r.fan0).extractLsb' 8 8, (fanEncode r.fan1).extractLsb' 0 8, (fanEncode r.fan1).extractLsb' 8 8,
        (fanEncode r.fan2).extractLsb' 0 8, (fanEncode r.fan2).extractLsb' 8 8, 0]
      = atLeast len 7 (.ok (.zeusStatus r)) := by
  simp only [decodeDevice, decodeZeusStatus_eq, byte_literal, bytes_append, fanDecode_fanEncode h0,
    fanDecode_fanEncode h1, fanDecode_fanEncode h2]

theorem decode_zeusControlPoint_payload (r : ZeusControlPoint) :
    decodeDevice cfg .zeusControlPoint len #v[r.humidity.extractLsb' 0 8, r.humidity.extractLsb' 8 8,
        r.temperature.extractLsb' 0 8, r.temperature.extractLsb' 8 8, 0, 0, 0, 0]
      = atLeast len 4 (.ok (.zeusControlPoint r)) := by
  simp only [decodeDevice, decodeZeusControlPoint_eq, byte_literal, bytes_append]

/-- The words that HumToBin and TempToBin give are never the sentinel, so both sensor checks pass (R224, R226). -/
theorem sensorsChecked_of_converted (f g : F32) (rec : F32 → F32 → Record) :
    sensorsChecked (humToBin f) (tempToBin g) rec
      = .ok (rec (binToHum (humToBin f)).1 (binToTemp (tempToBin g)).1) := by
  rw [sensorsChecked_of_valid rec (humToBin_le f) (tempToBin_le g), binToHum_of_le (humToBin_le f),
    binToTemp_of_le (tempToBin_le g)]

theorem decode_zeusSetPoint_payload (r : ZeusSetPoint) :
    decodeDevice cfg .zeusSetPoint len #v[(humToBin r.humidity).extractLsb' 0 8, (humToBin r.humidity).extractLsb' 8 8,
        (tempToBin r.temperature).extractLsb' 0 8, (tempToBin r.temperature).extractLsb' 8 8, r.wind, 0, 0, 0]
      = atLeast len 5 (.ok (.zeusSetPoint
          ⟨(binToHum (humToBin r.humidity)).1, (binToTemp (tempToBin r.temperature)).1, r.wind⟩)) := by
  simp only [decodeDevice, decodeZeusSetPoint_eq, byte_literal, bytes_append, sensorsChecked_of_converted]

/-- A 12-bit field is all that BIN_TO_TMP reads of its word (40_fixed_point.md R145). -/
theorem binToTmp_setWidth (a : BitVec 12) : binToTmp (a.setWidth 16) = rne32 a.toInt 16 := by
  simp (disch := decide) only [binToTmp, BitVec.extractLsb'_setWidth_of_le, BitVec.extractLsb'_eq_self]

theorem decode_zeusReport_payload (r : ZeusReport) :
    decodeDevice cfg .zeusReport len (memWrite .zero 0 8 (zeusReportWord r).toNat)
      = atLeast len 8 (.ok (.zeusReport
          ⟨(binToHum (humToBin r.humidity)).1, (binToTemp (tempToBin r.temperature)).1,
            binToTmp ((tmpToBin r.aux0).setWidth 16), binToTmp ((tmpToBin r.aux1).setWidth 16),
            binToTmp ((tmpToBin r.aux2).setWidth 16)⟩)) := by
  have hfield {u : U16} (hu : u.toNat ≤ 16382) : (u.extractLsb' 0 14).setWidth 16 = u :=
    (setWidth_extractLsb'_of_lt (by omega) 16).trans (BitVec.setWidth_eq u)
  refine (decodeZeusReport_eq ((memRead64_memWrite ..).trans (zeusReportWord_eq r)) len).trans ?_
  rw [hfield (humToBin_le _), hfield (tempToBin_le _), sensorsChecked_of_converted]
  simp only [binToTmp_setWidth]

theorem decode_zeusDeltaTemperature_payload (r : ZeusDeltaTemperature) :
    decodeDevice cfg .zeusDeltaTemperature len
        #v[(deltaHToBin r.delta0).extractLsb' 0 8, (deltaHToBin r.delta0).extractLsb' 8 8,
          (deltaTToBin r.delta1).extractLsb' 0 8, (deltaTToBin r.delta1).extractLsb' 8 8,
          (deltaTToBin r.delta2).extractLsb' 0 8, (deltaTToBin r.delta2).extractLsb' 8 8,
          (deltaTToBin r.delta3).extractLsb' 0 8, (deltaTToBin r.delta3).extractLsb' 8 8]
      = atLeast len 8 (.ok (.zeusDeltaTemperature ⟨binToDeltaH (deltaHToBin r.delta0),
          binToDeltaT (deltaTToBin r.delta1), binToDeltaT (deltaTToBin r.delta2),
          binToDeltaT (deltaTToBin r.delta3)⟩)) := by
  simp only [decodeDevice, decodeZeusDeltaTemperature_eq, byte_literal, bytes_append]

end

end Sys2Proof.Machine
end

section
/-! PROOF. The statements of 45_dispatch.md R319. -/

namespace Sys2Proof.Proofs
open Sys2Proof.Machine

/-- Settles O45, message by message: a record that ENCODE accepts makes the parts of a device message, and the decoder of
the class reads their payload back. -/
theorem integerDeviceMessagesParseBack : Obligations.IntegerDeviceMessagesParseBack := by
  intro o s hready hcap hnode t n
  refine ⟨fun r hclass hroom => ?_, fun r hclass hroom => ?_, fun r hclass hroom => ?_, fun r hclass hroom hfan => ?_,
    fun r hclass hroom hup hdown hon hdebounce => ?_, fun r hclass hroom => ?_, fun r hclass hroom => ?_,
    fun r hclass hroom => ?_, fun r hclass hroom h3 h4 h8 h9 => ?_, fun r hclass hroom h0 h1 h2 => ?_,
    fun r hclass hroom => ?_⟩
  · exact parsesBack_device hready hcap hnode hclass hroom rfl (partsNotusSetPoint_eq ..)
      (decode_notusSetPoint_payload ..)
  · exact parsesBack_device hready hcap hnode hclass hroom rfl (partsNotusConfig_eq ..)
      (decode_notusConfig_payload ..)
  · exact parsesBack_device hready hcap hnode hclass hroom rfl (partsCelaenoSetPoint_eq ..)
      (decode_celaenoSetPoint_payload ..)
  · exact parsesBack_device hready hcap hnode hclass hroom rfl (partsCelaenoStatus_of_valid hfan ..)
      (decode_celaenoStatus_payload _ _ hfan)
  · obtain ⟨up, down, on, debounce⟩ := r
    obtain ⟨a, rfl⟩ := exists_u16_of_le hup
    obtain ⟨b, rfl⟩ := exists_u16_of_le hdown
    obtain ⟨c, rfl⟩ := exists_u16_of_le hon
    obtain ⟨d, rfl⟩ := exists_u16_of_le hdebounce
    exact parsesBack_device hready hcap hnode hclass hroom rfl (partsCelaenoConfig_u16 ..)
      (decode_celaenoConfig_payload ..)
  · exact parsesBack_device hready hcap hnode hclass hroom rfl (partsHeliosSetPoint_eq ..)
      (decode_heliosSetPoint_payload ..)
  · exact parsesBack_device hready hcap hnode hclass hroom rfl (partsHeliosPulseMode_eq ..)
      (decode_heliosPulseMode_payload ..)
  · have hrow : exec (.encodeHeliosTriggerMode o r) s = s.buildDevice o 0x36 .heliosTriggerMode
        (partsHeliosTriggerMode s.cfg.triggerModeLen o 0x36 r) (rawRecord (putHeliosTriggerMode r 0)) := rfl
    cases html : s.cfg.triggerModeLen with
    | four =>
      rw [html] at hroom hrow
      exact parsesBack_device hready hcap hnode hclass hroom hrow (partsHeliosTriggerMode_four ..)
        (decode_heliosTriggerMode_payload_four _ html r)
    | six =>
      rw [html] at hroom hrow
      exact parsesBack_device hready hcap hnode hclass hroom hrow (partsHeliosTriggerMode_six ..)
        (decode_heliosTriggerMode_payload_six _ html r)
  · exact parsesBack_device hready hcap hnode hclass hroom rfl (partsZeusConfig_of_inRange h3 h4 h8 h9 ..)
      (decode_zeusConfig_payload _ _ h3 h4 h8 h9)
  · exact parsesBack_device hready hcap hnode hclass hroom rfl (partsZeusStatus_of_valid h0 h1 h2 ..)
      (decode_zeusStatus_payload _ _ h0 h1 h2)
  · exact parsesBack_device hready hcap hnode hclass hroom rfl (partsZeusControlPoint_eq ..)
      (decode_zeusControlPoint_payload ..)

/-- Settles O46: the payloads hold the words of the conversions, which the decoders convert back. -/
theorem fixedPointDeviceMessagesParseBack : Obligations.FixedPointDeviceMessagesParseBack := by
  intro o s hready hcap hnode t n hum temp tmp
  refine ⟨fun r hclass hroom => ?_, fun r hclass hroom => ?_, fun r hclass hroom => ?_⟩
  · exact parsesBack_device hready hcap hnode hclass hroom rfl (partsZeusSetPoint_eq ..)
      (decode_zeusSetPoint_payload ..)
  · exact parsesBack_device hready hcap hnode hclass hroom rfl rfl (decode_zeusReport_payload ..)
  · exact parsesBack_device hready hcap hnode hclass hroom rfl (partsZeusDeltaTemperature_eq ..)
      (decode_zeusDeltaTemperature_payload ..)

/-- Settles O47: a record that passes the argument and range checks makes the parts of a network command, whose
sub-command selects the decoder of its payload; the period 0 is the empty payload. -/
theorem networkMessagesParseBack : Obligations.NetworkMessagesParseBack := by
  intro o s hready hcap
  refine ⟨fun r hroom hid => ?_, fun r hroom hold hnew hne holdLe hnewLe => ?_, fun r hroom hperiod => ?_,
    fun r hnode hclass => parsesBack_poll hready hcap hnode hclass (exec_encodeMessageRequest ..)⟩
  · have hrow := exec_encodeResetRequest o r s
    rw [partsResetRequest_eq, if_neg (not_lt.2 hid)] at hrow
    exact parsesBack_network hready hcap (k := .reset) rfl hroom hrow
      ((decodeReset_eq ..).trans (atLeast_enough (toNat_ofNat_of_le_cap hroom).ge _))
  · have hrow := exec_encodeIdChangeRequest o r s
    rw [partsIdChangeRequest_eq, idChangeCheck_of_valid hold hnew hne holdLe hnewLe] at hrow
    exact parsesBack_network hready hcap (k := .idChange) rfl hroom hrow
      ((decodeIdChange_eq ..).trans (atLeast_enough (toNat_ofNat_of_le_cap hroom).ge _))
  · obtain ⟨c, period⟩ := r
    obtain ⟨p, rfl⟩ := exists_u16_of_le hperiod
    have hrow := exec_encodeHeartbeatRequest o ⟨c, p.setWidth 32⟩ s
    by_cases hp : p = 0
    · subst hp
      exact parsesBack_network hready hcap (k := .heartbeatRequest) rfl (Nat.zero_le _)
        (hrow.trans (congrArg _ (partsHeartbeatRequest_zero c))) (decodeHeartbeatRequest_of_empty rfl c _)
    · have hne : p.setWidth 32 ≠ 0 := setWidth_ne_zero hp
      rw [if_neg hne] at hroom
      rw [partsHeartbeatRequest_u16 c hp] at hrow
      exact parsesBack_network hready hcap (k := .heartbeatRequest) rfl hroom hrow
        (decode_heartbeatRequest_payload c p)

end Sys2Proof.Proofs
end

section
/-! SUPPORT. What a step answers at each host action, and where it completes (60_exceptions.md R358,
70_reset_and_hazards.md R380, R384). -/

namespace Sys2Proof.Machine

/-! ### A Read -/

theorem State.readPort_valid {s : State} {p : Nat} {r : Response} (h : s.ports[p]? = some ⟨true, r⟩) :
    s.readPort p = .next { s with lastRead := some r } := by
  simp [State.readPort, h]

theorem State.readPort_not_valid {s : State} {p : Nat} {r : Response} (h : s.ports[p]? = some ⟨false, r⟩) :
    s.readPort p = .fault (.responseNotValid p) := by
  simp [State.readPort, h]

theorem State.readPort_noPort {s : State} {p : Nat} (h : s.ports.length ≤ p) :
    s.readPort p = .fault (.noSuchPort p) := by
  simp [State.readPort, h]

/-! ### A step at each host action -/

section
variable {s : State} {rest : List HostAction} {p : Nat} {img : Image}

theorem step_nil (h : s.pending = []) : step s = .next s := by
  rw [step, fetch_nil h]

theorem step_submit_malformed {why : DecodeError} (h : s.pending = .submit p img :: rest)
    (hdecode : decode img = .error why) : step s = .refused (.malformedImage why) := by
  rw [step, fetch_submit_malformed h hdecode]

theorem step_read (h : s.pending = .read p :: rest) : step s = { s with pending := rest }.readPort p := by
  rw [step, fetch_read h]

theorem step_reset (h : s.pending = .reset :: rest) : step s = .next { s with pending := rest }.blockReset := by
  rw [step, fetch_reset h]

end

/-! ### Where an action completes -/

/-- An instruction completes exactly on a port that exists (R358). -/
theorem exec_completes_iff (i : Instr) (s : State) : (∃ t, exec i s = .next t) ↔ s.portReady := by
  constructor
  · rintro ⟨t, h⟩
    obtain ⟨_, _, _, hready, _⟩ := exec_eq_next h
    exact hready
  · intro hready
    obtain ⟨r, hexec⟩ := Proofs.responseDependsOnlyOnTheRequest i s.cfg
    exact ⟨_, hexec s rfl hready⟩

/-- A Read completes exactly on a valid response (R384). -/
theorem State.readPort_completes_iff (s : State) (p : Nat) :
    (∃ t, s.readPort p = .next t) ↔ ∃ port, s.ports[p]? = some port ∧ port.respValid = true := by
  obtain ⟨port, hport, hvalid, he⟩ | ⟨port, hport, hvalid, he⟩ | ⟨hnone, he⟩ := State.readPort_cases s p
  · exact ⟨fun _ => ⟨port, hport, hvalid⟩, fun _ => ⟨_, he⟩⟩
  · simp [he, hport, hvalid]
  · simp [he, hnone]

/-- A step at an action completes exactly where the spec allows the action. -/
theorem step_completes_iff_allows {s : State} {a : HostAction} {rest : List HostAction} (h : s.pending = a :: rest) :
    (∃ t, step s = .next t) ↔ s.allows a := by
  cases a with
  | submit p img =>
    cases hdecode : decode img with
    | ok i =>
      rw [Proofs.stepRunsTheDecodedInstruction s p img rest i h hdecode, exec_completes_iff]
      exact ⟨fun hready => ⟨hready, i, hdecode⟩, fun ⟨hready, _⟩ => hready⟩
    | error why => simp [step_submit_malformed h hdecode, State.allows, hdecode]
  | read p =>
    rw [step_read h]
    exact State.readPort_completes_iff ..
  | reset => exact ⟨fun _ => trivial, fun _ => ⟨_, step_reset h⟩⟩

/-! ### What is safe -/

theorem State.safe_of_nil {s : State} (h : s.pending = []) : s.safe := by
  simp [State.safe, h]

theorem State.safe_iff_allows {s : State} {a : HostAction} {rest : List HostAction} (h : s.pending = a :: rest) :
    s.safe ↔ s.allows a := by
  simp [State.safe, h]

end Sys2Proof.Machine
end

section
/-! PROOF. The statements of 60_exceptions.md R358 and 70_reset_and_hazards.md R380, R384 and R387. -/

namespace Sys2Proof.Proofs
open Sys2Proof.Machine

/-- Settles O54, by the list of host actions: a step with none left completes and is safe (log entry 3), and a step at an
action completes where the action is allowed, a Submit's image being a request (log entry 4). -/
theorem stepCompletesExactlyWhenSafe : Obligations.StepCompletesExactlyWhenSafe := by
  intro s
  cases hpending : s.pending with
  | nil => exact ⟨fun _ => State.safe_of_nil hpending, fun _ => ⟨s, step_nil hpending⟩⟩
  | cons a rest => exact (step_completes_iff_allows hpending).trans (State.safe_iff_allows hpending).symm

/-- Settles O53: each step is its action's operation, whose answer the port's content decides. -/
theorem hostActionsReadAndReset : Obligations.HostActionsReadAndReset := by
  intro s rest
  refine ⟨step_nil, fun p hread => ⟨fun r hport => ?valid, fun r hport => ?notValid, fun hlen => ?noPort⟩,
    fun hreset => ⟨_, step_reset hreset, State.blockReset_ports_length _, State.blockReset_not_valid _,
      rfl, rfl, rfl⟩⟩
  case valid => exact (step_read hread).trans (State.readPort_valid hport)
  case notValid => exact (step_read hread).trans (State.readPort_not_valid hport)
  case noPort => exact (step_read hread).trans (State.readPort_noPort hlen)

end Sys2Proof.Proofs
end
